-- ==== Sys2Proof/Word.lean ====
section
/-! DEFINITION. The word types of the vessel bus and the plainest arithmetic of the part's counts. -/

namespace Sys2Proof

/-- One byte of a CAN frame, of a request's parameters, or of a tag, a sequence or a station number (R201). -/
abbrev Byte := BitVec 8

/-- One more, holding at `top`: the manual's "a count that holds at its maximum" (00_scope, Numbers). -/
def holdAt (top n : Nat) : Nat := min top (n + 1)

/-- One more on a 16-bit count that holds at 65535. -/
def bump (n : Nat) : Nat := holdAt 65535 n

end Sys2Proof
end

