-- ==== Sys2Proof/Syntax.lean ====
section
/-! DEFINITION. The commands the MT-26 takes: one constructor of `Instr` for each row of spec/opcode_table.json.

A row whose event comes from outside the part (a strobe, a pin, a frame on the vessel bus, the CAN controller)
carries what comes with it. A row whose event is the part's own timer carries at most the name of the thing
whose time has come (a call, a reference, a window): the time itself is the own timebase in the state. -/

namespace Sys2Proof

/-- The four filtered inputs, in the order R190 names them. -/
inductive Line where
  | dis | cnl | txinh | cd
  deriving DecidableEq, Repr

/-- A whole request as the port hands it to its owner (R201, R202): the source station, the tag to echo and the
parameter bytes. For CONFIGURE and STATUS rows the item code is the row itself and `params` are the bytes after it. -/
structure Request where
  src : Byte
  tag : Byte
  params : List Byte
  deriving DecidableEq, Repr

/-- A frame on the vessel bus under the extended identifier of R201. -/
structure CanFrame where
  priority : BitVec 3
  cls : BitVec 10
  dest : Byte
  src : Byte
  data : List Byte
  deriving DecidableEq, Repr

/-- The commands. The row of each constructor is named in LAWS.json. -/
inductive Instr where
  -- resets
  | powerOn (straps : Byte) (dis cnl txinh cd : Bool)
  | linkRestart (r : Request)
  -- receive decoder
  | rxsStrobe (bit : Bool) (confidence : BitVec 3)
  | strobeGap
  | linkedTimeout
  -- net monitor
  | clearInterval
  | pendingHalfExpiry
  | overheardLinkTimeout
  | entryAging (call : Nat)
  | alarmPulse
  -- transmit encoder
  | startTransmission
  | linkSlotStart
  | transmissionComplete
  -- link controller
  | consideration
  | backoffEnd
  | cycleBoundary
  | sessionSlotRead
  -- message queues
  | nextEligibleReached (ref : Nat)
  | partialExpiry (ref : Nat)
  -- bulletin receiver
  | heardListExpiry
  | windowBoundary (window : Nat)
  | graceExpiry (window : Nat)
  -- catch tally
  | closeInstant
  | closeRetry
  | reportOverdue (serial : Nat)
  -- distress unit
  | burstTimerExpiry
  | distressHeld
  | cancelTimerExpiry
  | cancelGapExpiry
  | watchExpiry (origin : Nat)
  | holdOffExpiry (origin : Nat)
  | alarmRepeat
  | entryRemoval (origin : Nat)
  | silenceEnd
  -- line unit
  | rawLevelChange (line : Line) (high : Bool)
  | acceptedChange (line : Line)
  -- clock
  | time (src : Byte) (day : BitVec 16) (seconds : BitVec 24)
  | syncLapse
  | position (src : Byte) (latitude longitude : BitVec 32)
  -- vessel bus port: frames and assemblies
  | malformedFrame (f : CanFrame)
  | assemblyLead (cls : Byte) (r : Request) (count : Byte)
  | requestContinuation (r : Request) (index : Byte)
  | assemblyTimeout (src : Byte)
  -- requests and transfers
  | raiseDistress (r : Request)
  | cancelDistress (r : Request)
  | acknowledgeAlert (r : Request)
  | sendMessage (r : Request)
  | text (src : Byte) (sequence : Byte) (bytes : List Byte)
  | intakeTimeout
  | cancelMessage (r : Request)
  | readMessage (r : Request)
  | readBulletin (r : Request)
  | readoutText
  | endOfText
  | frameCarried
  | sendingStops
  | sendingResumes
  | readoutStall
  | haulEntry (r : Request)
  | closeReport (r : Request)
  | setSelection (r : Request)
  | setAux (r : Request)
  -- configuration
  | configureOwnCall (r : Request)
  | configurePortOffice (r : Request)
  | configureBridgeStations (r : Request)
  | configureQuotas (r : Request)
  | configureRelayMode (r : Request)
  | configureBusyRule (r : Request)
  | configureCdFilterTime (r : Request)
  | configureScheduleWindow (r : Request)
  | configureClearSchedule (r : Request)
  | configureInitialSelection (r : Request)
  | configureOriginFilter (r : Request)
  | configureCloseHour (r : Request)
  | configureReportDeadline (r : Request)
  | configureNextSerial (r : Request)
  | configureWatchInterval (r : Request)
  | configureCallThreshold (r : Request)
  | configureGoodLimit (r : Request)
  | configurePoorLimit (r : Request)
  | configurePageLimit (r : Request)
  | configureAuxDistressMode (r : Request)
  | configureDone (r : Request)
  | configWindowExpiry
  -- status
  | statusLinkController (r : Request)
  | statusNetMonitor (r : Request)
  | statusStationEntry (r : Request)
  | statusReceiveDecoder (r : Request)
  | statusOutgoingQueue (r : Request)
  | statusOutgoingRecord (r : Request)
  | statusIncomingList (r : Request)
  | statusIncomingRecord (r : Request)
  | statusBulletinReceiver (r : Request)
  | statusBulletinRecord (r : Request)
  | statusTextStore (r : Request)
  | statusCatchTally (r : Request)
  | statusHaulEntry (r : Request)
  | statusTallyRow (r : Request)
  | statusDistressUnit (r : Request)
  | statusDistressEntry (r : Request)
  | statusLines (r : Request)
  | statusClock (r : Request)
  | statusBusPort (r : Request)
  -- reset pin
  | resetLow
  deriving DecidableEq, Repr

end Sys2Proof
end

