-- ==== Sys2Proof/Decode.lean ====
section
/-! DEFINITION. Decoding. The part is a block: its commands come as events, and spec/opcode_table.json gives no row any
bits, so no word spells a command. A frame of the vessel bus has bits: its identifier and its data bytes, read here into
the command that takes it (R200, R201). -/

namespace Sys2Proof

/-- The command that a word spells by the table's bits. No row of spec/opcode_table.json has bits: none does. -/
def decodeTableWord (_nbits _w : Nat) : Option Instr := none

/-! ### Frames (R200, R201) -/

/-- The extended identifier of a frame: priority, class, destination and source from bit 28 down (R201). -/
def CanFrame.identifier (f : CanFrame) : BitVec 29 := f.priority ++ f.cls ++ f.dest ++ f.src

/-- The frame of an extended identifier and its data bytes (R201). -/
def CanFrame.ofIdentifier (id : BitVec 29) (data : List Byte) : CanFrame :=
  { priority := id.extractLsb' 26 3, cls := id.extractLsb' 16 10, dest := id.extractLsb' 8 8,
    src := id.extractLsb' 0 8, data := data }

/-- The classes of requests (R201). -/
def requestClass (cls : Nat) : Bool :=
  [64, 65, 66, 72, 80, 81, 96, 98, 104, 105, 112, 113, 120, 121, 128].contains cls

/-- TIME: day count in two bytes, seconds of day in three (R201). -/
def CanFrame.timeCommand (f : CanFrame) : Option Instr :=
  match f.data with
  | [a, b, c, d, e] => some (.time f.src (a ++ b) (c ++ d ++ e))
  | _ => none

/-- POSITION: latitude and longitude in four bytes each (R201). -/
def CanFrame.positionCommand (f : CanFrame) : Option Instr :=
  match f.data with
  | [a, b, c, d, e, g, h, i] => some (.position f.src (a ++ b ++ c ++ d) (e ++ g ++ h ++ i))
  | _ => none

/-- TEXT, REQUEST CONTINUATION and request leads: two bytes of their kind, then up to six more; a continuation has at
least one more (R201). -/
def CanFrame.stationCommand (f : CanFrame) : Option Instr :=
  match f.data with
  | x :: y :: rest =>
    if 6 < rest.length then none
    else if f.cls = 97 then some (.text f.src x (y :: rest))
    else if f.cls = 129 then
      if rest = [] then none else some (.requestContinuation { src := f.src, tag := x, params := rest } y)
    else if requestClass f.cls.toNat then
      some (.assemblyLead (f.cls.setWidth 8) { src := f.src, tag := x, params := rest } y)
    else none
  | _ => none

/-- The command that takes a frame, when its class is one a station sends and its data length is of its kind (R200,
R201). -/
def CanFrame.command (f : CanFrame) : Option Instr :=
  if f.cls = 16 then f.timeCommand
  else if f.cls = 17 then f.positionCommand
  else f.stationCommand

end Sys2Proof
end

