-- ==== Sys2Proof/Config.lean ====
section
/-! DEFINITION. What an implementation of the part fixes and the manual does not give a value for (free values,
opaque: no proof can see them), and the manual's own constants of time. -/

namespace Sys2Proof.Config

/-- The internal generator's step at one RXS strobe, by the symbol's confidence (R34). FREE VALUE: the manual
gives no generator, only when it is stepped. -/
opaque generatorStep : Nat → BitVec 3 → Nat

/-- The count 0–15 drawn on entering BACKOFF, from the generator's state and the number of the draw (R34: "Any
count 0–15 may result from any draw"). FREE VALUE. -/
opaque backoffDraw : Nat → Nat → Fin 16

/-- The bytes that stand in a result or notice for an item that is absent, "none", "never" or "unset" there
(R201 gives no form for them). FREE VALUE, by the place of the byte in its field. -/
opaque absentByte : Nat → Byte

/-! Times, in milliseconds of the part's own timebase. -/

/-- One linked cycle (R17, R67). -/
def cycleMs : Nat := 1200
/-- The long slot's length (R67). -/
def longSlotMs : Nat := 720
/-- The short slot's start within its cycle (R67). -/
def shortStartMs : Nat := 870
/-- The short slot's end within its cycle (R67). -/
def shortEndMs : Nat := 1050
/-- One character on the air (R3). -/
def charMs : Nat := 90
/-- One symbol on the air (R2). -/
def symbolMs : Nat := 10
/-- No strobe for this long loses the stream (R1). -/
def strobeGapMs : Nat := 100
/-- In sync for this long after a valid linked block (R17, R50). -/
def linkedHoldMs : Nat := 1500
/-- The clear interval (R51). -/
def clearMs : Nat := 4000
/-- Aging of a table entry's state, and of the overheard-link record (R58, R59). -/
def agingMs : Nat := 120000
/-- The interval of considerations in IDLE (R68). -/
def considerMs : Nat := 5000
/-- A partial record's life (R107). -/
def partialMs : Nat := 21600000
/-- A heard list entry's life (R117). -/
def heardMs : Nat := 259200000
/-- The grace of a quiet window (R133). -/
def graceMs : Nat := 180000
/-- The retry timer of a pending close (R150). -/
def closeRetryMs : Nat := 60000
/-- The hold timer of a held burst (R165). -/
def holdMs : Nat := 60000
/-- The cancel timer (R167). -/
def cancelMs : Nat := 30000
/-- The gap between DCANCEL frames (R168). -/
def cancelGapMs : Nat := 20000
/-- The repeat timer of ALARM notices (R185). -/
def repeatMs : Nat := 30000
/-- A finished distress entry's life after its last heard (R176). -/
def removalMs : Nat := 3600000
/-- Silence after the latest silence event (R181). -/
def silenceMs : Nat := 900000
/-- A TIME keeps the clock synchronized for this long (R197). -/
def syncMs : Nat := 600000
/-- A position is used in a burst for this long (R163, R198). -/
def positionMs : Nat := 600000
/-- An assembly stands this long without a frame (R202). -/
def assemblyMs : Nat := 1000
/-- An intake stands this long without a fragment (R206). -/
def intakeMs : Nat := 5000
/-- A readout stands this long with no frame carried (R209). -/
def stallMs : Nat := 5000
/-- The least time between READOUT TEXT placements (R208). -/
def readoutMs : Nat := 10
/-- The configuration window (R212). -/
def windowMs : Nat := 30000
/-- A port office heard within this long is judged by its quality (R36, R63). -/
def recentMs : Nat := 1800000
/-- The delay of a failed or broken destination for classes 0–2 (R100, R101). -/
def delayMs : Nat := 120000
/-- The same for class 3 (R100, R101). -/
def distressDelayMs : Nat := 30000
/-- The delay of a report after its fifth failure (R100). -/
def reportDelayMs : Nat := 900000

end Sys2Proof.Config
end

