-- ==== Sys2Proof/Machine/Blocks.lean ====
section
/-! DEFINITION. The twelve functional blocks' own state (00_scope, "The part at a glance") as plain data, and each
block's state at power-on. Times are milliseconds of the part's own timebase, times of day are seconds of day, and
letters and text are text codes, unless a field says otherwise. A value named from a list in its owning rule is an
inductive type whose constructors stand in that rule's order, since R201 carries it as its place in the list. -/

namespace Sys2Proof.Machine

/-! ### Values named from lists -/

/-- Busy rule (R50). -/
inductive BusyRule where
  | any | both
  deriving DecidableEq, Repr

/-- Relay mode (R178). -/
inductive RelayMode where
  | off | bridge | auto
  deriving DecidableEq, Repr

/-- AUX distress mode (R186). -/
inductive AuxMode where
  | hold | release | driveHigh | driveLow
  deriving DecidableEq, Repr

/-- A requested or driven AUX level: low, high, or open, that is high impedance (R194). -/
inductive AuxLevel where
  | low | high | opened
  deriving DecidableEq, Repr

/-- Origin filter (R115). -/
inductive OriginFilter where
  | any | schedule
  deriving DecidableEq, Repr

/-- Text store class (R39). -/
inductive StoreClass where
  | bulletin | incoming | outgoing
  deriving DecidableEq, Repr

/-- State of a station table entry (R52). -/
inductive StationState where
  | quiet | calling | inSession | distress
  deriving DecidableEq, Repr

/-- State of the link controller (R66). -/
inductive Phase where
  | idle | clearing | backoff | calling | answering | sending | receiving | ending
  deriving DecidableEq, Repr

/-- End code of an attempt or session (R91). -/
inductive EndCode where
  | normal | normalUnconfirmed | noAnswer | linkLost | brokenLocal | brokenPeer | peerFull | restarted
  deriving DecidableEq, Repr

/-- Break reason, by its letter on the air: "D", "W", "S" or "R" (R16, R86). -/
inductive BreakReason where
  | distress | window | silence | restart
  deriving DecidableEq, Repr

/-- A role in a session (R91). -/
inductive Role where
  | sender | receiver
  deriving DecidableEq, Repr

/-- State of an outgoing record (R93). -/
inductive OutState where
  | intake | queued | active
  deriving DecidableEq, Repr

/-- State of an incoming record (R104). -/
inductive IncState where
  | receiving | partly | complete | reading
  deriving DecidableEq, Repr

/-- State of a bulletin record (R111). -/
inductive BulState where
  | receiving | held | reading
  deriving DecidableEq, Repr

/-- Why a spread frame was cut short (R10, R11, R111). -/
inductive CutCause where
  | newBegin | erasures | markers | phasing | strobe | streamEnd | ownKeying | restart
  deriving DecidableEq, Repr

/-- How a bulletin copy ended: by END, or cut with a cause (R111). -/
inductive Ending where
  | whole
  | cut (cause : CutCause)
  deriving DecidableEq, Repr

/-- State of a schedule window (R130). -/
inductive WindowState where
  | inactive | guard | active
  deriving DecidableEq, Repr

/-- Source of a close (R145, R146). -/
inductive CloseSource where
  | hour | request
  deriving DecidableEq, Repr

/-- Why a close was not made (R148), and NOT-CONFIGURED (R147), which no list of causes holds and is carried as the
fifth, code 4: DESIGN CHOICE, log entry 69. -/
inductive CloseCause where
  | queue | reports | serial | pages | notConfigured
  deriving DecidableEq, Repr

/-- Own distress state (R159). -/
inductive OwnState where
  | none | alerting | acknowledged | cancelPending | cancelling
  deriving DecidableEq, Repr

/-- Relay state of a distress list entry (R169). -/
inductive RelayState where
  | notEligible | idle | waiting | sent | suppressed
  deriving DecidableEq, Repr

/-- Watch of a distress list entry (R169). -/
inductive WatchState where
  | running | expired | stopped
  deriving DecidableEq, Repr

/-- The ALARM output (R184). -/
inductive AlarmLine where
  | off | steady | pulsed
  deriving DecidableEq, Repr

/-- Cause of an ALARM notice (R185). -/
inductive AlarmCause where
  | new | newSerial | expired | repeated | notTracked
  deriving DecidableEq, Repr

/-- Kind of an OWN ALERT EVENT (R166). -/
inductive OwnEvent where
  | coastAcknowledged | dackFromVessel | relayed | cancelHeard
  deriving DecidableEq, Repr

/-- Sync state of the receive decoder (R6, R17, R24). -/
inductive SyncState where
  | hunting | spreadSync | linked
  deriving DecidableEq, Repr

/-- Type of a distress frame (R14). -/
inductive FrameType where
  | alert | relay | dack | dcancel
  deriving DecidableEq, Repr

/-- Type of a linked block, in index order from 105 (R3). -/
inductive BlockType where
  | callA | callB | data | msgBegin | msgEnd | resume | over | close | brk
  deriving DecidableEq, Repr

/-- Type of a linked reply, in index order from 114 (R3). -/
inductive ReplyType where
  | accept | request | ready | hold | brk | restart
  deriving DecidableEq, Repr

/-! ### Receive decoder (chapter 1) -/

/-- One symbol taken: its bit, its confidence and the moment of its strobe (R1). -/
structure Sym where
  bit : Bool
  conf : BitVec 3
  time : Nat
  deriving DecidableEq, Repr

/-- A nine-symbol group as read: its index 0–125 when it has exactly five ones, and its summed confidence (R3). -/
structure Copy where
  index : Option Nat
  conf : Nat
  deriving DecidableEq, Repr

/-- A valid linked block: type, the digit of its second character, and its five payload indexes (R16). -/
structure Block where
  kind : BlockType
  digit : Nat
  payload : List Nat
  deriving DecidableEq, Repr

/-- A valid linked reply: type and the index of its value (R16). -/
structure Reply where
  kind : ReplyType
  value : Nat
  deriving DecidableEq, Repr

/-- The marker search after every 64th pair: the last pair's two slots and the slots read since (R9). -/
structure MarkerSearch where
  f : Copy
  s : Copy
  slots : List Copy
  deriving DecidableEq, Repr

/-- What the decoder has of a frame: its characters' count n and score sum, and the characters of its header or
fields decided so far, `none` for an erasure (R12 to R15). -/
inductive FrameState where
  | between
  | bulletin (n sum : Nat) (header : List (Option Nat))
  | distress (type : FrameType) (n sum : Nat) (fields : List (Option Nat))
  deriving DecidableEq, Repr

/-- The spread stream being read (R5 to R12). -/
structure Stream where
  /-- Pairs read in the phasing state, or `none` once pair 0 has come (R7). -/
  phasing : Option Nat
  /-- Character pairs begun. -/
  pair : Nat
  /-- Symbols of the slot being read. -/
  part : List Sym
  /-- The F slot of the pair being read. -/
  f : Option Copy
  /-- The diversity delay line, oldest first. -/
  delay : List Copy
  marker : Option MarkerSearch
  erasureRun : Nat
  missedRun : Nat
  idleRun : Nat
  /-- A run of unexpected characters between frames is being read (R12). -/
  unknownRun : Bool
  frame : FrameState
  deriving DecidableEq, Repr

/-- No stream in progress (R24). -/
def Stream.empty : Stream :=
  { phasing := some 0, pair := 0, part := [], f := none, delay := [], marker := none, erasureRun := 0,
    missedRun := 0, idleRun := 0, unknownRun := false, frame := .between }

/-- The receive decoder. -/
structure Decoder where
  sync : SyncState
  /-- The intake window: the last 72 symbols taken, oldest first (R1). -/
  window : List Sym
  /-- The symbols taken since the boundary of the session's cycle (R18). -/
  slotSyms : List Sym
  /-- A spread stream has occupied the decoder in the session's cycle: its slots are not read (R10, R18). -/
  slotBlocked : Bool
  /-- The last strobe taken, or the release of KEY or power-on if later: the strobe gap runs from here (R1). -/
  strobeRef : Nat
  /-- The strobe gap running has already been acted on. -/
  gapSeen : Bool
  stream : Stream
  /-- The start of a long slot of the LINKED cycle (R17). -/
  align : Option Nat
  /-- The last valid linked block, while its 1.5 s run (R17, R50). -/
  lastBlock : Option Nat
  /-- The stream quality accumulator, or no value (R29). -/
  acc : Option Nat
  synced : Nat
  losses : Nat
  slips : Nat
  missed : Nat
  unknown : Nat
  deriving DecidableEq, Repr

/-- R24. -/
def Decoder.powerOn : Decoder :=
  { sync := .hunting, window := [], slotSyms := [], slotBlocked := false, strobeRef := 0, gapSeen := false, stream := .empty,
    align := none, lastBlock := none, acc := none, synced := 0, losses := 0, slips := 0, missed := 0, unknown := 0 }

/-- The internal generator of the backoff draws (R34): its state, and how many draws it has given. -/
structure Generator where
  state : Nat
  draws : Nat
  deriving DecidableEq, Repr

/-- R34 leaves the generator's state after power-on open: DESIGN CHOICE 0, read only through the opaque
`Config.backoffDraw`. -/
def Generator.powerOn : Generator := { state := 0, draws := 0 }

/-! ### Transmit encoder (chapter 1) -/

/-- A frame the distress unit places: own burst, relay or DCANCEL (R19, R21). -/
inductive FrameKind where
  | burst | relay | dcancel
  deriving DecidableEq, Repr

/-- A BURST or FRAME request: kind, field characters as indexes, and the moment of its placement. -/
structure FrameReq where
  kind : FrameKind
  fields : List Nat
  placed : Nat
  deriving DecidableEq, Repr

/-- Kind of a LINK request (R19). -/
inductive LinkKind where
  | callHalf | block | reply
  deriving DecidableEq, Repr

/-- A LINK request (R19): its characters as indexes, without the check. -/
structure LinkReq where
  kind : LinkKind
  chars : List Nat
  slotStart : Nat
  cls : Nat
  closing : Bool
  deriving DecidableEq, Repr

/-- What is on the air. -/
inductive TxItem where
  | frame (r : FrameReq)
  | link (r : LinkReq)
  deriving DecidableEq, Repr

/-- The transmission in flight: what it is, its characters slot by slot as indexes, and its first symbol's start. -/
structure Transmission where
  item : TxItem
  slots : List Nat
  start : Nat
  deriving DecidableEq, Repr

/-- The transmit encoder: at most one transmission in flight and one waiting request in each position. -/
structure Encoder where
  inFlight : Option Transmission
  burst : Option FrameReq
  frame : Option FrameReq
  link : Option LinkReq
  deriving DecidableEq, Repr

/-- R23. -/
def Encoder.powerOn : Encoder := { inFlight := none, burst := none, frame := none, link := none }

/-- What the encoder reports of a request (R19, R20, R22, R67): sent, not sent, withheld by silence, cut short by TXINH,
or withdrawn because a newer request took its waiting position. -/
inductive TxReport where
  | sent | notSent | withheld | cutShort | withdrawn
  deriving DecidableEq, Repr

/-! ### Net monitor (chapter 4) -/

/-- Pin reasons (R52). -/
structure Pins where
  port : Bool
  schedule : Bool
  distress : Bool
  peer : Bool
  deriving DecidableEq, Repr

/-- No pin reason. -/
def Pins.empty : Pins := { port := false, schedule := false, distress := false, peer := false }

/-- A station table entry (R52). Its kind is fixed by its call. -/
structure Station where
  call : Nat
  q : Nat
  heardCount : Nat
  lastHeard : Option Nat
  state : StationState
  stateTime : Nat
  partner : Option Nat
  pins : Pins
  deriving DecidableEq, Repr

/-- A pending call half: a valid CALL-A or CALL-B, its digit, the call in its payload and its slot's start (R56). -/
structure CallHalf where
  isA : Bool
  digit : Nat
  call : Nat
  start : Nat
  deriving DecidableEq, Repr

/-- The overheard-link record (4.4), with the valid block last read in its long slot and, when a swap of its stations has
been heard, the start of the cycle from which it holds. -/
structure Overheard where
  align : Nat
  caller : Nat
  called : Nat
  sender : Nat
  inSession : Bool
  lastValid : Nat
  lastLong : Option (BlockType × Nat)
  swapAt : Option Nat
  deriving DecidableEq, Repr

/-- The net monitor. -/
structure NetMonitor where
  busy : Bool
  clear : Bool
  /-- The clear-interval timer's start, or `none` while it is held at zero (R51). -/
  clearStart : Option Nat
  table : List Station
  half : Option CallHalf
  overheard : Option Overheard
  rejected : Nat
  replaced : Nat
  unattributed : Nat
  deriving DecidableEq, Repr

/-- R65, with the first busy judgement made from the sampled CD level (R51). -/
def NetMonitor.powerOn (cd : Bool) : NetMonitor :=
  { busy := cd, clear := false, clearStart := if cd then none else some 0, table := [], half := none,
    overheard := none, rejected := 0, replaced := 0, unattributed := 0 }

/-! ### Link controller (chapter 5) -/

/-- The attempt, from CLEARING through CALLING (R66). -/
structure Attempt where
  dest : Nat
  opening : Nat
  cls : Nat
  deriving DecidableEq, Repr

/-- What the block in flight is (R75, R78, R85); records are named by their reference. -/
inductive SendKind where
  | msgBegin (ref : Nat)
  | resume (ref : Nat)
  | data (ref k : Nat)
  | msgEnd (ref : Nat)
  | over
  | close
  deriving DecidableEq, Repr

/-- The block in flight and its sequence (R66). -/
structure SendBlock where
  kind : SendKind
  seq : Nat
  deriving DecidableEq, Repr

/-- A change of role or phase that takes place at the next cycle boundary. -/
inductive NextPhase where
  | sending | receiving | turnTaking
  deriving DecidableEq, Repr

/-- The link controller's counts (R66): failed cycles 0–32, holds 0–50, closes 0–4, turns 0–65535, and the characters
and messages delivered in each direction. -/
structure LinkCounts where
  failed : Nat
  holds : Nat
  closes : Nat
  turns : Nat
  charsOut : Nat
  charsIn : Nat
  msgsOut : Nat
  msgsIn : Nat
  deriving DecidableEq, Repr

/-- Every count at 0, as at power-on and on entering CALLING or ANSWERING (R66, R73, R74). -/
def LinkCounts.zero : LinkCounts :=
  { failed := 0, holds := 0, closes := 0, turns := 0, charsOut := 0, charsIn := 0, msgsOut := 0, msgsIn := 0 }

/-- A session, from CALLING or ANSWERING to its end (R66). -/
structure Session where
  peer : Nat
  cls : Nat
  caller : Bool
  /-- The peer's announced count, when the part answered. -/
  announced : Option Nat
  /-- The count the part announces in its CALL-B (R73). -/
  ownCount : Nat
  /-- The first boundary of the session (R91, Duration). -/
  start : Nat
  /-- The boundary of the cycle running. -/
  boundary : Nat
  turnTaking : Bool
  next : Option NextPhase
  /-- The next sequence, which a block takes when it is first placed (R75). -/
  nextSeq : Nat
  /-- The block in flight, from its first placing until it is accepted. -/
  block : Option SendBlock
  /-- The block due after the one accepted, not yet placed; none at a message boundary. -/
  due : Option SendKind
  expected : Nat
  held : Option Reply
  /-- CALLING cycles begun (R73), and consecutive empty ANSWERING cycles (R74). -/
  callCycle : Nat
  empties : Nat
  /-- Some block the part sent was accepted (R90). -/
  accepted : Bool
  firstRole : Option Role
  /-- The closing break placed, with its reason (R87). -/
  breaking : Option BreakReason
  /-- The fiftieth hold was read; the CLOSE of R78 takes the next long slot, then is in flight. -/
  peerFull : Bool
  fullClose : Bool
  /-- A CLOSE was accepted as receiver, or the own CLOSE was (R85). -/
  closed : Bool
  /-- The cycle running: SENDING, RECEIVING or ENDING from its boundary on; its slot held something valid; its
  block was reported sent; its slots have been read. -/
  sampled : Bool
  valid : Bool
  blockSent : Bool
  /-- Turn-taking: a valid OVER was read in this cycle's long slot (R84). -/
  overRead : Bool
  longRead : Bool
  shortRead : Bool
  deriving DecidableEq, Repr

/-- The link controller. -/
structure LinkController where
  phase : Phase
  attempt : Option Attempt
  session : Option Session
  /-- The counts of the session running, or as the last one left them; 0 from power-on (R66). -/
  counts : LinkCounts
  pendingBreak : Option BreakReason
  /-- BACKOFF: its entry and its drawn count (R71). -/
  backoffStart : Nat
  backoffCount : Nat
  /-- The next 5 s consideration (R68). -/
  considerAt : Nat
  deriving DecidableEq, Repr

/-- R66. -/
def LinkController.powerOn : LinkController :=
  { phase := .idle, attempt := none, session := none, counts := .zero, pendingBreak := none, backoffStart := 0,
    backoffCount := 0, considerAt := 5000 }

/-! ### Message queues (chapter 6) -/

/-- An outgoing record (R93). Its on-air number is its reference mod 100, its chain stands in the text store. -/
structure OutRec where
  ref : Nat
  dest : Nat
  cls : Nat
  length : Nat
  offset : Nat
  attempts : Nat
  nextEligible : Nat
  state : OutState
  order : Nat
  created : Option Nat
  serial : Option Nat
  lastEnd : Option EndCode
  /-- The reaching of its next-eligible time has been reported (R98). -/
  told : Bool
  deriving DecidableEq, Repr

/-- An incoming record (R104). Its chain and the characters stored stand in the text store. -/
structure IncRec where
  ref : Nat
  origin : Nat
  number : Option Nat
  cls : Nat
  blocks : Nat
  truncated : Bool
  state : IncState
  before : Option IncState
  lastChange : Nat
  changeTod : Option Nat
  /-- The place of its completion in the sequence of completions (R108, "earliest"). -/
  completed : Nat
  deriving DecidableEq, Repr

/-- The message queues: outgoing records in queue order, incoming records in creation order. -/
structure Queues where
  out : List OutRec
  outRef : Nat
  outOrder : Nat
  inc : List IncRec
  incRef : Nat
  completions : Nat
  deriving DecidableEq, Repr

/-- R109. -/
def Queues.powerOn : Queues := { out := [], outRef := 0, outOrder := 0, inc := [], incRef := 0, completions := 0 }

/-! ### Bulletin receiver (chapter 7) -/

/-- A bulletin's identity (R111): letters as text codes, serial 0–99. -/
structure BulId where
  origin1 : Nat
  origin2 : Nat
  subject : Nat
  area : Nat
  serial : Nat
  deriving DecidableEq, Repr

/-- A bulletin record (R111); its chain stands in the text store. -/
structure BulRec where
  index : Nat
  id : BulId
  start : Nat
  startTod : Option Nat
  c : Nat
  e : Nat
  r : Option Nat
  pf : Option Nat
  ending : Option Ending
  poor : Bool
  truncated : Bool
  read : Bool
  state : BulState
  deriving DecidableEq, Repr

/-- A heard list entry (R117). -/
structure Heard where
  id : BulId
  best : Nat
  lastHeard : Nat
  deriving DecidableEq, Repr

/-- A window of the forecast schedule as configured (R129). -/
structure Window where
  coast : Nat
  origin1 : Nat
  origin2 : Nat
  start : Nat
  duration : Nat
  subject : Nat
  quiet : Bool
  deriving DecidableEq, Repr

/-- A window with its state, its heard mark and the moment its grace expires (R130, R133). -/
structure LiveWindow where
  win : Window
  state : WindowState
  heard : Bool
  grace : Option Nat
  deriving DecidableEq, Repr

/-- The bulletin receiver. -/
structure Bulletins where
  recs : List BulRec
  index : Nat
  heardList : List Heard
  /-- Letter sets: bit i is the letter "A" + i. -/
  subjects : BitVec 26
  areas : BitVec 26
  origins : OriginFilter
  windows : List LiveWindow
  /-- A BEGIN has come in the body of the RECEIVING record: the quality n and Σs of its frame (R122). -/
  suspended : Option (Nat × Nat)
  headers : Nat
  stored : Nat
  filtered : Nat
  duplicate : Nat
  unreadable : Nat
  storeFull : Nat
  truncations : Nat
  missed : Nat
  deriving DecidableEq, Repr

/-- R116, R137. -/
def Bulletins.powerOn : Bulletins :=
  { recs := [], index := 0, heardList := [], subjects := BitVec.allOnes 26, areas := BitVec.allOnes 26,
    origins := .any, windows := [], suspended := none, headers := 0, stored := 0, filtered := 0, duplicate := 0,
    unreadable := 0, storeFull := 0, truncations := 0, missed := 0 }

/-! ### Catch tally (chapter 8) -/

/-- A haul list entry (R139): species three and area four text codes. -/
structure Haul where
  number : Nat
  species : List Nat
  area : List Nat
  weight : Nat
  deriving DecidableEq, Repr

/-- A tally row (R142); its total and saturated flag are read from its sum. -/
structure TallyRow where
  species : List Nat
  area : List Nat
  sum : Nat
  count : Nat
  deriving DecidableEq, Repr

/-- A clock reading: day count and seconds of day (R195). -/
structure Reading where
  day : Nat
  secs : Nat
  deriving DecidableEq, Repr

/-- A pending close (R150). -/
structure PendingClose where
  source : CloseSource
  since : Nat
  cause : CloseCause
  retryAt : Nat
  deriving DecidableEq, Repr

/-- A report watch list entry (R153). -/
structure ReportWatch where
  serial : Nat
  ref : Nat
  closedAt : Nat
  closed : Option Reading
  deadline : Nat
  overdue : Bool
  deriving DecidableEq, Repr

/-- The catch tally. -/
structure CatchTally where
  hauls : List Haul
  rows : List TallyRow
  serial : Nat
  opened : Option Reading
  closes : Nat
  /-- The last close day D; it holds a value exactly when the hour close is armed (R145, R157). -/
  closeDay : Option Nat
  pending : Option PendingClose
  watch : List ReportWatch
  late : Nat
  deferrals : Nat
  deriving DecidableEq, Repr

/-- R157. -/
def CatchTally.powerOn : CatchTally :=
  { hauls := [], rows := [], serial := 1, opened := none, closes := 0, closeDay := none, pending := none,
    watch := [], late := 0, deferrals := 0 }

/-! ### Distress unit (chapter 9) -/

/-- A distress list entry (R169). The position is its 11 characters as heard, as indexes. -/
structure DistressEntry where
  origin : Nat
  serial : Nat
  nature : Option Nat
  position : Option (List Nat)
  time : Option Nat
  firstHeard : Nat
  firstTod : Option Nat
  lastHeard : Nat
  best : Nat
  coastAck : Option Nat
  bridgeAck : Bool
  cancelled : Bool
  relays : Nat
  relayers : List Nat
  relay : RelayState
  /-- H in seconds and the moment the hold-off expires, while WAITING. -/
  holdOff : Option (Nat × Nat)
  due : Bool
  watch : WatchState
  watchEnd : Nat
  deriving DecidableEq, Repr

/-- An item of the frame queue (R180). -/
inductive Queued where
  | relay (origin : Nat)
  | dcancel
  deriving DecidableEq, Repr

/-- The distress unit. -/
structure Distress where
  own : OwnState
  /-- The serial counter, and the own alert serial or none (R159). -/
  counter : Nat
  serial : Option Nat
  nature : Option Nat
  alertTime : Option Nat
  burstAt : Option Nat
  cancelAt : Option Nat
  /-- The previous state while CANCEL-PENDING is ACKNOWLEDGED (otherwise ALERTING). -/
  prevAck : Bool
  cancelCount : Nat
  gapAt : Option Nat
  bursts : Nat
  /-- A burst is held since (R165); its hold timer has run out; its notice has been sent. -/
  heldSince : Option Nat
  holdDone : Bool
  heldTold : Bool
  list : List DistressEntry
  queue : List Queued
  /-- The latest silence event, while its 15 min run (R181). -/
  lastSilence : Option Nat
  alarm : AlarmLine
  /-- The ALARM pin, high when asserted, and while pulsed its next toggle (R184). -/
  alarmOn : Bool
  pulseAt : Nat
  repeatAt : Option Nat
  unusable : Nat
  replaced : Nat
  notTracked : Nat
  expiries : Nat
  relaysSent : Nat
  deriving DecidableEq, Repr

/-- R159, R188. -/
def Distress.powerOn : Distress :=
  { own := .none, counter := 0, serial := none, nature := none, alertTime := none, burstAt := none,
    cancelAt := none, prevAck := false, cancelCount := 0, gapAt := none, bursts := 0, heldSince := none,
    holdDone := false, heldTold := false, list := [], queue := [], lastSilence := none, alarm := .off,
    alarmOn := false, pulseAt := 0, repeatAt := none, unusable := 0, replaced := 0, notTracked := 0, expiries := 0,
    relaysSent := 0 }

/-! ### Text store (chapter 3) -/

/-- The record that holds a chain. -/
inductive RecKey where
  | out (ref : Nat)
  | inc (ref : Nat)
  | bul (index : Nat)
  deriving DecidableEq, Repr

/-- A page chain (R38): its record, class and distress-class mark, the charge of each page in chain order (`true`:
to the reserve) and the characters written. -/
structure Chain where
  key : RecKey
  cls : StoreClass
  distress : Bool
  charges : List Bool
  text : List Nat
  deriving DecidableEq, Repr

/-- A figure for each of the three classes. -/
structure PerClass where
  bulletin : Nat
  incoming : Nat
  outgoing : Nat
  deriving DecidableEq, Repr

/-- What a take is answered (R40, R41): granted, or quota full with the class, its quota, its quota count, the reserve in
use, and whether the record was distress-class. -/
inductive TakeAnswer where
  | granted
  | quotaFull (cls : StoreClass) (quota count reserve : Nat) (distress : Bool)
  deriving DecidableEq, Repr

/-- The text store. The page counts of R37 are read from the chains. -/
structure TextStore where
  quota : PerClass
  replacedQuotas : Bool
  full : PerClass
  chains : List Chain
  deriving DecidableEq, Repr

/-- The default quotas Qb, Qi, Qo (R46). -/
def defaultQuotas : PerClass := { bulletin := 192, incoming := 128, outgoing := 176 }

/-- R48. -/
def TextStore.powerOn : TextStore :=
  { quota := defaultQuotas, replacedQuotas := false, full := { bulletin := 0, incoming := 0, outgoing := 0 },
    chains := [] }

/-! ### Line unit and clock (chapter 10) -/

/-- One filtered input: accepted asserted or not, the candidate's moment when the raw level differs from the
accepted one, and the count of accepted changes (R190, R192). -/
structure Input where
  asserted : Bool
  candidate : Option Nat
  changes : Nat
  deriving DecidableEq, Repr

/-- R193: the sampled level becomes the accepted level. -/
def Input.powerOn (asserted : Bool) : Input := { asserted := asserted, candidate := none, changes := 0 }

/-- The line unit: the four inputs and the requested level of AUX0–AUX3. -/
structure LineUnit where
  dis : Input
  cnl : Input
  txinh : Input
  cd : Input
  aux : List AuxLevel
  deriving DecidableEq, Repr

/-- R193, R194, from the sampled pins: DIS and CNL are asserted low, TXINH and CD high (10.1). -/
def LineUnit.powerOn (dis cnl txinh cd : Bool) : LineUnit :=
  { dis := .powerOn (!dis), cnl := .powerOn (!cnl), txinh := .powerOn txinh, cd := .powerOn cd,
    aux := [.low, .low, .low, .low] }

/-- The running reading: `value` ms of the 65536-day cycle at own time `since`, standing still for `stand` ms
(R195, R196, correction backward). -/
structure ClockRef where
  since : Nat
  value : Nat
  stand : Nat
  deriving DecidableEq, Repr

/-- A held position: thousandths of a minute of arc, and its arrival (R198). -/
structure Position where
  latitude : Int
  longitude : Int
  arrival : Nat
  deriving DecidableEq, Repr

/-- The clock. It is set exactly when it holds a running reading. -/
structure Clock where
  ref : Option ClockRef
  synced : Bool
  lastTime : Option Nat
  position : Option Position
  steps : Nat
  corrections : Nat
  ignoredTimes : Nat
  ignoredPositions : Nat
  deriving DecidableEq, Repr

/-- R199. -/
def Clock.powerOn : Clock :=
  { ref := none, synced := false, lastTime := none, position := none, steps := 0, corrections := 0,
    ignoredTimes := 0, ignoredPositions := 0 }

/-! ### Vessel bus port (chapter 11) -/

/-- One item of a result's or notice's content, with the bytes it is carried in (R201): a number, a signed number,
text codes, or an item that is absent. -/
inductive Field where
  | num (width value : Nat)
  | int (width : Nat) (value : Int)
  | text (codes : List Nat)
  | absent (width : Nat)
  deriving DecidableEq, Repr

/-- A message of the outgoing frame queue: a RESULT (destination, tag, result code, request class), a NOTICE
(code, priority 0 or not, notice serial), a READOUT TEXT (destination, sequence, text) or an END OF TEXT
(destination, tag, characters sent, fragments sent). -/
inductive OutKind where
  | result (dest tag : Byte) (code cls : Nat)
  | notice (code : Nat) (urgent : Bool) (serial : Byte)
  | readoutText (dest seq : Byte) (codes : List Nat)
  | endOfText (dest tag : Byte) (chars fragments : Nat)
  deriving DecidableEq, Repr

/-- A message placed, its content, and how many of its frames the wire has carried. -/
structure OutMsg where
  kind : OutKind
  content : List Field
  carried : Nat
  deriving DecidableEq, Repr

/-- A request assembly (R202). -/
structure Assembly where
  src : Byte
  tag : Byte
  cls : Byte
  count : Byte
  next : Byte
  params : List Byte
  last : Nat
  deriving DecidableEq, Repr

/-- The open intake transfer (R206). -/
structure Intake where
  station : Byte
  tag : Byte
  ref : Nat
  length : Nat
  received : Nat
  expected : Byte
  substituted : Nat
  last : Nat
  deriving DecidableEq, Repr

/-- The open readout transfer (R208): a READOUT TEXT placed last at `placed`, `waiting` of them not yet carried,
END OF TEXT placed or not, and the moment the 5 s of R209 run from. -/
structure Readout where
  station : Byte
  tag : Byte
  key : RecKey
  total : Nat
  next : Nat
  seq : Byte
  fragments : Nat
  placed : Option Nat
  waiting : Nat
  endPlaced : Bool
  carriedAt : Nat
  deriving DecidableEq, Repr

/-- The vessel bus port. -/
structure Port where
  station : Byte
  adjusted : Bool
  /-- The configuration window's opening while it is open (R212). -/
  window : Option Nat
  bridge : List Byte
  assemblies : List Assembly
  /-- The outgoing frame queue: the message started, and those not yet started in the order placed (R205). -/
  current : Option OutMsg
  waiting : List OutMsg
  /-- Sending has stopped: bus-off, or a frame not acknowledged (R205). -/
  stopped : Bool
  intake : Option Intake
  readout : Option Readout
  /-- The moment at which a started frame of a readout was discarded by the 5 s of R209, if one was. -/
  droppedAt : Option Nat
  serial : Byte
  malformed : Nat
  duplicates : Nat
  stray : Nat
  busyAssembly : Nat
  accessRefusals : Nat
  lost : Nat
  abandoned : Nat
  unfinished : Nat
  adjustments : Nat
  deriving DecidableEq, Repr

/-- The part's own station number: the straps, 255 being taken as 254 (R200). -/
def stationOf (straps : Byte) : Byte := if straps = 255 then 254 else straps

/-- R212, R215: the port's state emptied, then STARTED placed under notice serial 0. STARTED carries the own
station number, whether the straps read 255, and the window's 30 s. -/
def Port.powerOn (straps : Byte) : Port :=
  { station := stationOf straps, adjusted := straps = 255, window := some 0, bridge := [], assemblies := [],
    current := some { kind := .notice 1 false 0,
                      content := [.num 1 (stationOf straps).toNat, .num 1 (if straps = 255 then 1 else 0), .num 1 30],
                      carried := 0 },
    waiting := [], stopped := false, intake := none, readout := none, droppedAt := none, serial := 1, malformed := 0,
    duplicates := 0, stray := 0, busyAssembly := 0, accessRefusals := 0, lost := 0, abandoned := 0, unfinished := 0,
    adjustments := 0 }

/-! ### Configuration (R213, R214) -/

/-- The configured values in force. -/
structure Settings where
  ownCall : Option Nat
  portOffice : Option Nat
  relayMode : RelayMode
  busyRule : BusyRule
  cdFilter : Nat
  closeHour : Nat
  deadline : Nat
  watchInterval : Nat
  threshold : Nat
  goodLimit : Nat
  poorLimit : Nat
  pageLimit : Nat
  auxModes : List AuxMode
  deriving DecidableEq, Repr

/-- The values in force from power-on until CONFIG CLOSED (R36, R50, R137, R157, R186, R188, R191, R212). -/
def Settings.powerOn : Settings :=
  { ownCall := none, portOffice := none, relayMode := .bridge, busyRule := .any, cdFilter := 50, closeHour := 18,
    deadline := 8, watchInterval := 180, threshold := 30, goodLimit := 40, poorLimit := 100, pageLimit := 16,
    auxModes := [.hold, .hold, .hold, .hold] }

/-- The values CONFIGURE has recorded in the window, to take effect at CONFIG CLOSED (R213). -/
structure Recorded where
  settings : Settings
  bridge : List Byte
  quotas : Option PerClass
  windows : List Window
  selection : Option (BitVec 26 × BitVec 26)
  origins : OriginFilter
  nextSerial : Option Nat
  deriving DecidableEq, Repr

/-- Nothing recorded: every item keeps its power-on value. -/
def Recorded.powerOn : Recorded :=
  { settings := .powerOn, bridge := [], quotas := none, windows := [], selection := none, origins := .any,
    nextSerial := none }

end Sys2Proof.Machine
end

