-- ==== Sys2Proof/Machine/State.lean ====
section
/-! DEFINITION. The state of the part as plain data, the ways a step can stop (none), and the state after reset. -/

namespace Sys2Proof.Machine

/-- A fault. The manual gives the part no event that stops it, so no command raises one: the type has no value.
(Safe: nothing is lost by it, since every command has a next state.) -/
inductive Fault where
  deriving DecidableEq, Repr

/-- A refusal. -/
inductive Refusal where
  /-- Raised by an arm of `exec` for a command that is not modelled yet, by its mnemonic. No arm does. Safe. -/
  | notModelled (mnemonic : String)
  deriving DecidableEq, Repr

/-- The part: its twelve blocks, the configuration, the own timebase, and the commands waiting. -/
structure State where
  /-- The part's own timebase, in milliseconds since power-on (R195). -/
  now : Nat
  /-- RESET is held low (R189). -/
  resetLow : Bool
  gen : Generator
  dec : Decoder
  enc : Encoder
  nm : NetMonitor
  link : LinkController
  q : Queues
  bul : Bulletins
  tally : CatchTally
  dis : Distress
  store : TextStore
  lines : LineUnit
  clock : Clock
  port : Port
  /-- The configuration in force, and what the window has recorded. -/
  cfg : Settings
  recd : Recorded
  /-- The commands waiting, first in first out: the model's own field. -/
  pending : List Instr
  deriving DecidableEq, Repr

/-- The part right after power-on with the given ADDR straps and raw pin levels (R189 and each block's chapter). -/
def State.atPowerOn (straps : Byte) (dis cnl txinh cd : Bool) : State :=
  { now := 0, resetLow := false, gen := .powerOn, dec := .powerOn, enc := .powerOn, nm := .powerOn cd,
    link := .powerOn, q := .powerOn, bul := .powerOn, tally := .powerOn, dis := .powerOn, store := .powerOn,
    lines := .powerOn dis cnl txinh cd, clock := .powerOn, port := .powerOn straps, cfg := .powerOn,
    recd := .powerOn, pending := [] }

/-- The machine right after reset. The straps and pin levels are outside the part; DESIGN CHOICE: straps 0, and
every input deasserted (DIS and CNL high, TXINH and CD low). -/
def State.reset : State := .atPowerOn 0 true true false false

end Sys2Proof.Machine
end

