-- ==== Sys2Proof/Machine/Codes.lean ====
section
/-! DEFINITION. The character code, text codes, blocks and replies, the spread stream's layout (R3, R4, R5, R14, R16),
and the quality arithmetic (chapter 2). -/

namespace Sys2Proof.Machine

/-! ### The character code (R3) -/

/-- How many nine-bit values with exactly `k` ones stand below this one, given from its first-sent bit on. -/
def rankOf : List Bool → Nat → Nat
  | [], _ => 0
  | b :: rest, k => if b then Nat.choose rest.length k + rankOf rest (k - 1) else rankOf rest k

/-- The value of `n` bits with `k` ones that has `i` such values below it, first-sent bit first. -/
def unrank : Nat → Nat → Nat → List Bool
  | 0, _, _ => []
  | n + 1, k, i =>
    if i < Nat.choose n k then false :: unrank n k i else true :: unrank n (k - 1) (i - Nat.choose n k)

/-- The codeword of an index 0–125, first-sent bit first (R3). -/
def codeword (i : Nat) : List Bool := unrank 9 5 i

/-- The number of ones of a group. -/
def onesOf (bits : List Bool) : Nat := (bits.filter id).length

/-- The index of a nine-symbol group that has exactly five ones (R3). -/
def codeIndex (bits : List Bool) : Option Nat :=
  if bits.length = 9 ∧ onesOf bits = 5 then some (rankOf bits 5) else none

/-- A nine-symbol group read: its index and its summed confidence (R3). -/
def readCopy (syms : List Sym) : Copy :=
  { index := codeIndex (syms.map (·.bit)), conf := (syms.map fun x => x.conf.toNat).sum }

/-- A copy is valid when its index lies in 0–119 (R3). -/
def Copy.valid (c : Copy) : Bool :=
  match c.index with
  | some i => i < 120
  | none => false

/-- `k` consecutive nine-symbol groups. -/
def readCopies : Nat → List Sym → List Copy
  | 0, _ => []
  | k + 1, syms => readCopy (syms.take 9) :: readCopies k (syms.drop 9)

/-! Indexes by name (R3). -/

/-- PHASE-A. -/
def cPhaseA : Nat := 96
/-- PHASE-B. -/
def cPhaseB : Nat := 97
/-- IDLE. -/
def cIdle : Nat := 98
/-- BEGIN. -/
def cBegin : Nat := 99
/-- END. -/
def cEnd : Nat := 100
/-- The index of a printable character given by its text code. -/
def cText (code : Nat) : Nat := code - 32
/-- The index of a digit. -/
def cDigit (d : Nat) : Nat := 16 + d
/-- "?". -/
def cQuery : Nat := 31
/-- "T". -/
def cTee : Nat := 52

/-- Index of a distress frame's type character (R3). -/
def FrameType.index : FrameType → Nat
  | .alert => 101
  | .relay => 102
  | .dack => 103
  | .dcancel => 104

/-- The frame type a decided character starts (R12). -/
def frameTypeOf (i : Nat) : Option FrameType :=
  if i = 101 then some .alert
  else if i = 102 then some .relay
  else if i = 103 then some .dack
  else if i = 104 then some .dcancel
  else none

/-- Field characters of a distress frame (R14). R14 says 27 of a RELAY, as R21's 31, 47 and 8460 ms do, although the
fields it lists are 5 + 23 = 28 characters: DESIGN CHOICE, log entry 51, the 27 stand and the last one listed is not on
the air. -/
def FrameType.fields : FrameType → Nat
  | .alert => 23
  | .relay => 27
  | .dack => 12
  | .dcancel => 7

/-- Index of a block type (R3). -/
def BlockType.index (t : BlockType) : Nat := 105 + t.ctorIdx

/-- The block type of an index (R3). -/
def blockTypeOf (i : Nat) : Option BlockType :=
  [.callA, .callB, .data, .msgBegin, .msgEnd, .resume, .over, .close, BlockType.brk].find? fun t => t.index == i

/-- Index of a reply type (R3). -/
def ReplyType.index (t : ReplyType) : Nat := 114 + t.ctorIdx

/-- The reply type of an index (R3). -/
def replyTypeOf (i : Nat) : Option ReplyType :=
  [.accept, .request, .ready, .hold, .brk, ReplyType.restart].find? fun t => t.index == i

/-- The letter of a break reason, as a text code (R16). -/
def BreakReason.letter : BreakReason → Nat
  | .distress => 68
  | .window => 87
  | .silence => 83
  | .restart => 82

/-- The break reason a letter's index names (R16). -/
def breakReasonOf (i : Nat) : Option BreakReason :=
  [.distress, .window, .silence, BreakReason.restart].find? fun r => cText r.letter == i

/-! ### Text on the air and in the store (R4) -/

/-- The index a stored text byte is sent as (R4). -/
def sendIndex (code : Nat) : Nat :=
  if code = 10 then 95 else if code = 127 then cQuery else code - 32

/-- The text code a decided character is stored as: text, NEW LINE, or the erasure mark for an erasure and for a
character that cannot stand in text (R4). -/
def storeCode : Option Nat → Nat
  | some i => if i < 95 then i + 32 else if i = 95 then 10 else 127
  | none => 127

/-- The `w` digits of a number, leading zeros included. -/
def digitsOf : Nat → Nat → List Nat
  | 0, _ => []
  | w + 1, n => (n / 10 ^ w) % 10 :: digitsOf w n

/-- A number as digits on the air. -/
def digitIndexes (w n : Nat) : List Nat := (digitsOf w n).map cDigit

/-- A number as digits in text. -/
def digitCodes (w n : Nat) : List Nat := (digitsOf w n).map (48 + ·)

/-- The digit a decided character shows. -/
def digitAt : Option Nat → Option Nat
  | some i => if 16 ≤ i ∧ i ≤ 25 then some (i - 16) else none
  | none => none

/-- The number a run of decided characters shows, when each is a digit. -/
def readNumber (chars : List (Option Nat)) : Option Nat :=
  chars.foldl (fun acc c => match acc, digitAt c with
    | some n, some d => some (10 * n + d)
    | _, _ => none) (some 0)

/-- The text code of a capital letter a decided character shows. -/
def letterAt : Option Nat → Option Nat
  | some i => if 33 ≤ i ∧ i ≤ 58 then some (i + 32) else none
  | none => none

/-- A text code is a capital letter "A"–"Z". -/
def isLetter (code : Nat) : Bool := 65 ≤ code && code ≤ 90

/-- A text code is a digit "0"–"9". -/
def isDigit (code : Nat) : Bool := 48 ≤ code && code ≤ 57

/-! ### Blocks and replies (R16) -/

/-- The check index of a block's seven characters (R16). -/
def checkOf (chars : List Nat) : Nat := chars.sum % 126

/-- The eight slots of a block as sent (R16, R21). -/
def blockSlots (chars : List Nat) : List Nat := chars ++ [checkOf chars]

/-- The digits allowed as a block's second character: "0"–"9" in a call half, "0"–"7" otherwise (R16). -/
def digitAllowed (t : BlockType) (i : Nat) : Bool :=
  match t with
  | .callA | .callB => 16 ≤ i && i ≤ 25
  | _ => 16 ≤ i && i ≤ 23

/-- The valid block that eight groups hold, if they do (R16). -/
def readBlock (syms : List Sym) : Option Block :=
  if syms.length = 72 then
    let copies := readCopies 8 syms
    let first := copies.take 7
    let chars := first.map fun c => c.index.getD 0
    match blockTypeOf (chars.getD 0 0) with
    | some t =>
      if first.all Copy.valid && digitAllowed t (chars.getD 1 0)
          && ((copies.getD 7 { index := none, conf := 0 }).index == some (checkOf chars)) then
        some { kind := t, digit := chars.getD 1 0 - 16, payload := chars.drop 2 }
      else none
    | none => none
  else none

/-- The values allowed for a reply type (R16). -/
def valueAllowed (t : ReplyType) (i : Nat) : Bool :=
  match t with
  | .accept => (16 ≤ i && i ≤ 23) || i == cTee
  | .request | .hold => 16 ≤ i && i ≤ 23
  | .ready | .restart => i == 16
  | .brk => (breakReasonOf i).isSome

/-- The valid reply that two groups hold, if they do (R16). -/
def readReply (syms : List Sym) : Option Reply :=
  if syms.length = 18 then
    match readCopies 2 syms with
    | [a, b] =>
      match replyTypeOf (a.index.getD 0) with
      | some t =>
        if a.valid && b.valid && valueAllowed t (b.index.getD 0) then some { kind := t, value := b.index.getD 0 }
        else none
      | none => none
    | _ => none
  else none

/-- A reply's two characters. -/
def Reply.chars (r : Reply) : List Nat := [r.kind.index, r.value]

/-! ### The spread stream as sent (R5, R21) -/

/-- Pair `j` and the marker pair after it, where one stands: after every 64th pair except the last (R5). -/
def pairSlots (chars : List Nat) (j : Nat) : List Nat :=
  let f := chars.getD j cIdle
  let s := if j < 4 then cIdle else chars.getD (j - 4) cIdle
  if (j + 1) % 64 = 0 ∧ j + 1 < chars.length + 4 then [f, s, cPhaseA, cPhaseB] else [f, s]

/-- The slots of a spread transmission of the given characters, END × 3 included: twelve phasing pairs, the
character pairs and the four flush pairs with their marker pairs (R5). -/
def spreadSlots (chars : List Nat) : List Nat :=
  (List.replicate 12 [cPhaseA, cPhaseB]).flatten ++ ((List.range (chars.length + 4)).map (pairSlots chars)).flatten

/-- The type character of a frame the part sends (R19, R21). -/
def FrameKind.type : FrameKind → FrameType
  | .burst => .alert
  | .relay => .relay
  | .dcancel => .dcancel

/-- The slots of a BURST or FRAME request: the type, its fields and END × 3 (R21). -/
def FrameReq.slots (r : FrameReq) : List Nat :=
  spreadSlots (r.kind.type.index :: r.fields ++ [cEnd, cEnd, cEnd])

/-- The slots of a LINK request: a block's eight characters or a reply's two (R21). -/
def LinkReq.slots (r : LinkReq) : List Nat :=
  match r.kind with
  | .reply => r.chars
  | _ => blockSlots r.chars

/-- The end of a transmission's last symbol (R2, R3). -/
def Transmission.finish (t : Transmission) : Nat := t.start + Config.charMs * t.slots.length

/-- The symbols of a transmission, in the order sent (R2). -/
def Transmission.symbols (t : Transmission) : List Bool := (t.slots.map codeword).flatten

/-! ### Decision and score (R8) -/

/-- The character decided from two copies, and its score. -/
def decideBoth (f s : Copy) : Option Nat × Nat :=
  match f.valid, s.valid with
  | true, true =>
    if f.index = s.index then (f.index, 16) else if s.conf > f.conf then (s.index, 6) else (f.index, 6)
  | true, false => (f.index, 12)
  | false, true => (s.index, 12)
  | false, false => (none, 0)

/-- The character decided from its F copy, and its S copy unless that was withdrawn (R8, R9). -/
def decideChar (f : Copy) : Option Copy → Option Nat × Nat
  | some s => decideBoth f s
  | none => if f.valid then (f.index, 12) else (none, 0)

/-! ### Quality arithmetic (chapter 2) -/

/-- An accumulator's starting value (R25). -/
def startQ : Nat := 2048

/-- An accumulator fed with one sample (R25). -/
def feedQ (q sample : Nat) : Nat := q + 16 * sample - q / 16

/-- The percent figure of an accumulator (R28). -/
def percentOf (q : Nat) : Nat := (100 * q + 2048) / 4096

/-- The frame percent P_f of n characters with score sum Σs (R31). -/
def framePercent (n sum : Nat) : Nat := (100 * sum + 8 * n) / (16 * n)

/-- The frame sample s_f (R31). -/
def frameSample (n sum : Nat) : Nat := (sum + n / 2) / n

/-- The bulletin erasure ratio r (R32). -/
def erasureRatio (c e : Nat) : Nat := if c = 0 then 0 else (1000 * e + c / 2) / c

/-- The relay hold-off H in seconds (R33). -/
def holdOffOf (pf own : Nat) : Nat := 20 + 2 * ((100 - pf) / 4) + 3 * (own % 8)

end Sys2Proof.Machine
end

