-- ==== Sys2Proof/Machine/Ops.lean ====
section
/-! DEFINITION. The operations every block shares: reading the clock, placing results and notices in the outgoing
frame queue (R201, R203, R205), and the text store's take, write, free and cut back (chapter 3). -/

namespace Sys2Proof.Machine

/-! ### Reading the clock (R195) -/

/-- Milliseconds in a day. -/
def dayMs : Nat := 86400000

/-- Milliseconds in the cycle of 65536 days. -/
def cycleDaysMs : Nat := 65536 * dayMs

/-- The reading at an own time, in ms of the cycle; a correction backward makes it stand for `stand` ms (R196). -/
def ClockRef.at (c : ClockRef) (now : Nat) : Nat := (c.value + (now - c.since - c.stand)) % cycleDaysMs

/-- A reading in ms of the cycle as day count and seconds of day. -/
def readingOf (ms : Nat) : Reading := { day := ms / dayMs, secs := ms / 1000 % 86400 }

/-- The clock's reading now, or none while unset (R195). -/
def State.reading (s : State) : Option Reading := s.clock.ref.map fun c => readingOf (c.at s.now)

/-- The clock's time of day now, or none while unset. -/
def State.tod (s : State) : Option Nat := s.reading.map (·.secs)

/-! ### Content of results and notices (R201) -/

/-- A number in `w` bytes, most significant first. -/
def bigEndian : Nat → Nat → List Byte
  | 0, _ => []
  | w + 1, n => BitVec.ofNat 8 (n / 256 ^ w) :: bigEndian w n

/-- The bytes an item takes. -/
def Field.width : Field → Nat
  | .num w _ => w
  | .int w _ => w
  | .text codes => codes.length
  | .absent w => w

/-- The bytes an item is carried in; those of an absent item are free values (R201 gives it no form). -/
def Field.bytes : Field → List Byte
  | .num w n => bigEndian w n
  | .int w v => bigEndian w (v % (256 ^ w : Nat)).toNat
  | .text codes => codes.map (BitVec.ofNat 8)
  | .absent w => (List.range w).map Config.absentByte

/-- The bytes of a content. -/
def contentBytes (content : List Field) : List Byte := (content.map Field.bytes).flatten

/-- The number of bytes of a content. -/
def contentWidth (content : List Field) : Nat := (content.map Field.width).sum

/-- A flag or yes-or-no item. -/
def flag (b : Bool) : Field := .num 1 (if b then 1 else 0)

/-- A number in `w` bytes, or absent. -/
def numOr (w : Nat) : Option Nat → Field
  | some n => .num w n
  | none => .absent w

/-- A call, or none. -/
def callOr (c : Option Nat) : Field := numOr 3 c

/-- A time of day, or "unset". -/
def todOr (t : Option Nat) : Field := numOr 3 t

/-- A reading as day count and time of day, or "unset". -/
def readingOr : Option Reading → List Field
  | some r => [.num 2 r.day, .num 3 r.secs]
  | none => [.absent 2, .absent 3]

/-- A moment of the own timebase. -/
def ownTime (t : Nat) : Field := .num 6 t

/-- A set of letters as 26 flags, "A" first. -/
def letterFlags (set : BitVec 26) : List Field := (List.range 26).map fun i => flag (set.getLsbD i)

/-- A record's state before reading, by its place in R104's own list of that field: 0 PARTIAL, 1 COMPLETE. R201 codes a
value by its place in its owning rule's list, and R104 lists the values of State beside it: DEDUCED, log entry 64. -/
def IncState.beforeField (b : IncState) : Field := flag (b = .complete)

/-- Whole seconds from `t` until `now`, a second begun not counted. Every report of seconds since a moment uses it; no rule
says how a part of a second is counted: DESIGN CHOICE, log entry 65. -/
def secsSince (now t : Nat) : Nat := (now - t) / 1000

/-- Whole seconds from `now` to a time not yet come, rounded up. Every report of seconds to a moment uses it (R94, R136,
R156, R169, R181, R187); no rule says how a part of a second is counted: DESIGN CHOICE, log entry 65. -/
def secsTo (now t : Nat) : Nat := (t - now + 999) / 1000

/-! ### The outgoing frame queue (R205) -/

/-- Continuation frames a content needs beyond the lead frame's room. -/
def continuations (room : Nat) (content : List Field) : Nat := (contentWidth content - room + 5) / 6

/-- The frames of a message. -/
def OutMsg.frames (m : OutMsg) : Nat :=
  match m.kind with
  | .result .. => 1 + continuations 4 m.content
  | .notice .. => 1 + continuations 5 m.content
  | .readoutText .. => 1
  | .endOfText .. => 1

/-- The six content bytes of continuation frame `i`, numbered from 1, after a lead frame with `room` of them. -/
def contBytes (room i : Nat) (content : List Field) : List Byte :=
  ((contentBytes content).drop (room + 6 * (i - 1))).take 6

/-- Frame `i` of a message, 0 being its lead, as the part `own` sends it (R201). -/
def OutMsg.frame (own : Byte) (m : OutMsg) (i : Nat) : CanFrame :=
  match m.kind with
  | .result dest tag code cls =>
    if i = 0 then
      { priority := 2, cls := 512, dest := dest, src := own,
        data := [tag, BitVec.ofNat 8 (continuations 4 m.content), BitVec.ofNat 8 code, BitVec.ofNat 8 cls]
          ++ (contentBytes m.content).take 4 }
    else
      { priority := 2, cls := 513, dest := dest, src := own,
        data := [tag, BitVec.ofNat 8 i] ++ contBytes 4 i m.content }
  | .notice code urgent serial =>
    if i = 0 then
      { priority := if urgent then 0 else 3, cls := 528, dest := 255, src := own,
        data := [BitVec.ofNat 8 code, BitVec.ofNat 8 (continuations 5 m.content), serial]
          ++ (contentBytes m.content).take 5 }
    else
      { priority := if urgent then 0 else 3, cls := 529, dest := 255, src := own,
        data := [BitVec.ofNat 8 code, BitVec.ofNat 8 i] ++ contBytes 5 i m.content }
  | .readoutText dest seq codes =>
    { priority := 5, cls := 520, dest := dest, src := own, data := seq :: codes.map (BitVec.ofNat 8) }
  | .endOfText dest tag chars fragments =>
    { priority := 5, cls := 521, dest := dest, src := own,
      data := tag :: bigEndian 2 chars ++ bigEndian 2 fragments }

/-- The frames the queue holds: those of the message started not yet carried, and all of those waiting. -/
def Port.held (p : Port) : Nat :=
  (match p.current with
    | some m => m.frames - m.carried
    | none => 0) + (p.waiting.map OutMsg.frames).sum

/-- A notice of priority 0. -/
def OutMsg.urgent (m : OutMsg) : Bool :=
  match m.kind with
  | .notice _ urgent _ => urgent
  | _ => false

/-- Take the first message of the list that `p` holds of, and the rest in order. -/
def pickFirst (p : OutMsg → Bool) : List OutMsg → Option (OutMsg × List OutMsg)
  | [] => none
  | m :: rest =>
    if p m then some (m, rest)
    else match pickFirst p rest with
      | some (x, left) => some (x, m :: left)
      | none => none

/-- Start the next message when none is started and sending has not stopped: a notice of priority 0 first,
otherwise in the order placed (R205). -/
def Port.startNext (p : Port) : Port :=
  if p.stopped || p.current.isSome then p
  else match pickFirst OutMsg.urgent p.waiting with
    | some (m, rest) => { p with current := some m, waiting := rest }
    | none =>
      match p.waiting with
      | m :: rest => { p with current := some m, waiting := rest }
      | [] => p

/-- A message fits when all of its frames do (R205). -/
def Port.fits (p : Port) (m : OutMsg) : Bool := p.held + m.frames ≤ 64

/-- Place a message, or count it lost (R205). -/
def Port.place (p : Port) (m : OutMsg) : Port :=
  if p.fits m then Port.startNext { p with waiting := p.waiting ++ [m] } else { p with lost := bump p.lost }

/-- The notices of priority 0 are those of codes 40–44 (R201). -/
def urgentCode (code : Nat) : Bool := 40 ≤ code && code ≤ 44

/-- Place a notice under the notice serial, which then rises by 1 (R201, R205). -/
def Port.notice (p : Port) (code : Nat) (content : List Field) : Port :=
  let m : OutMsg := { kind := .notice code (urgentCode code) p.serial, content := content, carried := 0 }
  if p.fits m then { p.place m with serial := p.serial + 1 } else p.place m

/-- Broadcast a notice. -/
def State.notice (s : State) (code : Nat) (content : List Field) : State :=
  { s with port := s.port.notice code content }

/-- Result codes, in the order of their table (R201). -/
inductive ResultCode where
  | done | accepted | busy | full | invalid | notAllowed | state | closed | notConfigured
  deriving DecidableEq, Repr

/-- Answer a request of class `cls` with one result (R203). -/
def State.result (s : State) (cls : Nat) (r : Request) (code : ResultCode) (content : List Field) : State :=
  let m : OutMsg := { kind := .result r.src r.tag code.ctorIdx cls, content := content, carried := 0 }
  { s with port := s.port.place m }

/-! ### The text store (chapter 3) -/

/-- The figure of one class. -/
def PerClass.get (p : PerClass) : StoreClass → Nat
  | .bulletin => p.bulletin
  | .incoming => p.incoming
  | .outgoing => p.outgoing

/-- Replace the figure of one class. -/
def PerClass.set (p : PerClass) (cls : StoreClass) (n : Nat) : PerClass :=
  match cls with
  | .bulletin => { p with bulletin := n }
  | .incoming => { p with incoming := n }
  | .outgoing => { p with outgoing := n }

/-- Pages of a chain charged to its class's quota, and to the reserve (R37). -/
def Chain.quotaPages (c : Chain) : Nat := (c.charges.filter (!·)).length
/-- See `Chain.quotaPages`. -/
def Chain.reservePages (c : Chain) : Nat := (c.charges.filter id).length

/-- The quota count of a class (R37). -/
def TextStore.quotaCount (t : TextStore) (cls : StoreClass) : Nat :=
  ((t.chains.filter (·.cls = cls)).map Chain.quotaPages).sum

/-- The reserve count of a class (R37). -/
def TextStore.reserveCount (t : TextStore) (cls : StoreClass) : Nat :=
  ((t.chains.filter (·.cls = cls)).map Chain.reservePages).sum

/-- The reserve in use (R37). -/
def TextStore.reserveInUse (t : TextStore) : Nat := (t.chains.map Chain.reservePages).sum

/-- All held pages. -/
def TextStore.heldPages (t : TextStore) : Nat := (t.chains.map (·.charges.length)).sum

/-- The free count: 512 less all held pages (R37). -/
def TextStore.freePages (t : TextStore) : Nat := 512 - t.heldPages

/-- The quota room of a class (R40). -/
def TextStore.quotaRoom (t : TextStore) (cls : StoreClass) : Nat := t.quota.get cls - t.quotaCount cls

/-- The reserve room of a record (R40). -/
def TextStore.reserveRoom (t : TextStore) (distress : Bool) : Nat := if distress then 16 - t.reserveInUse else 0

/-- A take of `n` pages is granted when n is no greater than the two rooms together (R40). -/
def TextStore.grants (t : TextStore) (cls : StoreClass) (distress : Bool) (n : Nat) : Bool :=
  n ≤ t.quotaRoom cls + t.reserveRoom distress

/-- The chain of a record, if it holds one. -/
def TextStore.chain (t : TextStore) (key : RecKey) : Option Chain := t.chains.find? fun c => c.key = key

/-- The characters of a record. -/
def TextStore.textOf (t : TextStore) (key : RecKey) : List Nat := ((t.chain key).map (·.text)).getD []

/-- The pages of a record. -/
def TextStore.pagesOf (t : TextStore) (key : RecKey) : Nat := ((t.chain key).map (·.charges.length)).getD 0

/-- Change the chain of a record. -/
def TextStore.onChain (t : TextStore) (key : RecKey) (f : Chain → Chain) : TextStore :=
  { t with chains := t.chains.map fun c => if c.key = key then f c else c }

/-- The charges of `n` pages now granted: to the quota while it has room, then to the reserve (R40). -/
def TextStore.charges (t : TextStore) (cls : StoreClass) (n : Nat) : List Bool :=
  List.replicate (min n (t.quotaRoom cls)) false ++ List.replicate (n - min n (t.quotaRoom cls)) true

/-- The pages just granted join the end of the record's chain, which its first take makes (R38, R40). -/
def TextStore.addPages (t : TextStore) (key : RecKey) (cls : StoreClass) (distress : Bool) (new : List Bool) :
    TextStore :=
  if (t.chain key).isSome then t.onChain key fun c => { c with charges := c.charges ++ new }
  else { t with chains := t.chains ++
    [{ key := key, cls := cls, distress := distress, charges := new, text := [] }] }

/-- The answer quota full (R41). -/
def TextStore.quotaFull (t : TextStore) (cls : StoreClass) (distress : Bool) : TakeAnswer :=
  .quotaFull cls (t.quota.get cls) (t.quotaCount cls) t.reserveInUse distress

/-- The distress-class mark of a record: as given while it holds no page, and then its chain's, which does not change
while pages are held (R39). -/
def TextStore.mark (t : TextStore) (key : RecKey) (distress : Bool) : Bool :=
  ((t.chain key).map (·.distress)).getD distress

/-- Take `n` pages for a record, whole or not at all; a take not granted is answered quota full and counted
(R40, R41). -/
def TextStore.take (t : TextStore) (key : RecKey) (cls : StoreClass) (distress : Bool) (n : Nat) :
    TakeAnswer × TextStore :=
  if t.grants cls (t.mark key distress) n then
    (.granted, t.addPages key cls (t.mark key distress) (t.charges cls n))
  else (t.quotaFull cls (t.mark key distress), { t with full := t.full.set cls (bump (t.full.get cls)) })

/-- Write characters at the end of a record's chain; those that its pages have no room for are refused (R43). -/
def TextStore.write (t : TextStore) (key : RecKey) (codes : List Nat) : TextStore :=
  t.onChain key fun c => { c with text := c.text ++ codes.take (256 * c.charges.length - c.text.length) }

/-- Free a record's chain (R44). -/
def TextStore.free (t : TextStore) (key : RecKey) : TextStore :=
  { t with chains := t.chains.filter fun c => c.key ≠ key }

/-- Cut a record's chain back to its first `k` pages, k at least 1 and less than its page count (R45). -/
def TextStore.cutBack (t : TextStore) (key : RecKey) (k : Nat) : TextStore :=
  if 1 ≤ k ∧ k < t.pagesOf key then
    t.onChain key fun c => { c with charges := c.charges.take k, text := c.text.take (256 * k) }
  else t

/-- Set a chain's character count lower (R45). -/
def TextStore.lower (t : TextStore) (key : RecKey) (n : Nat) : TextStore :=
  t.onChain key fun c => { c with text := c.text.take n }

/-- Change the text store. -/
def State.onStore (s : State) (f : TextStore → TextStore) : State := { s with store := f s.store }

/-- Pages for a text of `n` characters. -/
def pagesFor (n : Nat) : Nat := (n + 255) / 256

/-- A quota set is valid: each at least 32, totalling 496, none below its class's quota count (R46). -/
def TextStore.validQuotas (t : TextStore) (q : PerClass) : Bool :=
  [StoreClass.bulletin, .incoming, .outgoing].all (fun c => 32 ≤ q.get c && t.quotaCount c ≤ q.get c)
    && q.bulletin + q.incoming + q.outgoing == 496

/-- CONFIG CLOSED: put the set last given into force, or replace it whole by the defaults (R46). -/
def TextStore.judgeQuotas (t : TextStore) : Option PerClass → TextStore
  | none => t
  | some q =>
    if t.validQuotas q then { t with quota := q } else { t with quota := defaultQuotas, replacedQuotas := true }

/-! ### Small list operations -/

/-- Insert in a list sorted by `before`, after the elements it does not stand before. -/
def insertBy {α : Type} (before : α → α → Bool) (x : α) : List α → List α
  | [] => [x]
  | y :: rest => if before x y then x :: y :: rest else y :: insertBy before x rest

/-- Sort a list by `before`, keeping the order of equals. -/
def sortBy {α : Type} (before : α → α → Bool) : List α → List α
  | [] => []
  | x :: rest => insertBy (fun a b => !before b a) x (sortBy before rest)

/-- The first element that no other stands before. -/
def firstBy {α : Type} (before : α → α → Bool) : List α → Option α
  | [] => none
  | x :: rest =>
    match firstBy before rest with
    | some y => if before y x then some y else some x
    | none => some x

/-- The first value after `n`, counting on and wrapping `top` to 1, that `free` holds of, within `fuel` values. -/
def nextFree (top : Nat) (free : Nat → Bool) : Nat → Nat → Nat
  | 0, n => n
  | fuel + 1, n =>
    let c := if top ≤ n then 1 else n + 1
    if free c then c else nextFree top free fuel c

end Sys2Proof.Machine
end

