-- ==== Sys2Proof/Machine/Flags.lean ====
section
/-! DEFINITION. The indications one block reads of another, computed from the state: KEY and TXD, in sync and busy,
silence, the guard indication, the restrictions on an attempt, the ALARM line, the AUX levels driven. -/

namespace Sys2Proof.Machine

/-- KEY is asserted exactly while a transmission is in flight (R2). -/
def State.key (s : State) : Bool := s.enc.inFlight.isSome

/-- The level of TXD: the symbol being sent, one every 10 ms, or low while KEY is released (R2). -/
def State.txd (s : State) : Bool :=
  match s.enc.inFlight with
  | some t => t.symbols.getD ((s.now - t.start) / Config.symbolMs) false
  | none => false

/-- Own distress is in force (R159). -/
def State.ownDistress (s : State) : Bool := s.dis.own ≠ .none

/-- Silence is in force: own distress, or 15 min since the latest silence event not yet past (R181). -/
def State.silence (s : State) : Bool :=
  s.ownDistress || (match s.dis.lastSilence with
    | some t => s.now < t + Config.silenceMs
    | none => false)

/-- The guard indication: some quiet window is GUARD or ACTIVE (R132). -/
def State.guardOn (s : State) : Bool := s.bul.windows.any fun w => w.win.quiet && w.state ≠ .inactive

/-- Own distress, silence, or a quiet window or guard restricts classes 0–2 (R69, R75). -/
def State.restricted (s : State) : Bool := s.ownDistress || s.silence || s.guardOn

/-- CONFIG CLOSED has come (R212). -/
def State.configClosed (s : State) : Bool := s.port.window.isNone

/-- The decoder is in sync: SPREAD-SYNC, or within 1.5 s of a valid linked block (R50). -/
def State.inSync (s : State) : Bool := s.dec.sync = .spreadSync || s.dec.lastBlock.isSome

/-- The busy judgement under the rule in force (R50). -/
def State.judgedBusy (s : State) : Bool :=
  match s.cfg.busyRule with
  | .any => s.lines.cd.asserted || s.inSync
  | .both => s.lines.cd.asserted && s.inSync

/-- The link controller is in CALLING, ANSWERING, SENDING, RECEIVING or ENDING. -/
def Phase.running : Phase → Bool
  | .calling | .answering | .sending | .receiving | .ending => true
  | _ => false

/-- SENDING, RECEIVING or ENDING. -/
def Phase.inSession : Phase → Bool
  | .sending | .receiving | .ending => true
  | _ => false

/-- The class of the session running, if one is. -/
def State.sessionClass (s : State) : Option Nat :=
  if s.link.phase.running then s.link.session.map (·.cls) else none

/-- A class-3 session is running (R180). -/
def State.classThree (s : State) : Bool := s.sessionClass = some 3

/-- A session of class 0–2 is running (R86, R133). -/
def State.lowerSession (s : State) : Bool :=
  match s.sessionClass with
  | some c => c ≠ 3
  | none => false

/-- A record is eligible in the queue's terms (R98). -/
def OutRec.eligible (r : OutRec) (now : Nat) : Bool := r.state = .queued && r.nextEligible ≤ now

/-- A record is eligible for sending to a peer within a session (R75). -/
def State.sendable (s : State) (peer : Nat) (r : OutRec) : Bool :=
  r.state = .queued && r.dest = peer && (!s.restricted || r.cls = 3)

/-- ⌈L/5⌉, the DATA blocks of a record (R75). -/
def OutRec.blocks (r : OutRec) : Nat := (r.length + 4) / 5

/-- The ALARM line a distress list gives (R184). -/
def alarmOf (list : List DistressEntry) : AlarmLine :=
  if list.any fun e => !e.bridgeAck && e.watch = .expired then .pulsed
  else if list.any fun e => !e.bridgeAck then .steady
  else .off

/-- The level line `i` of AUX0–AUX3 is driven at: its requested level, or its distress mode's while own distress is
in force (R186, R194). -/
def State.auxDriven (s : State) (i : Nat) : AuxLevel :=
  let asked := s.lines.aux.getD i .low
  if s.ownDistress then
    match s.cfg.auxModes.getD i .hold with
    | .hold => asked
    | .release => .opened
    | .driveHigh => .high
    | .driveLow => .low
  else asked

/-- One of the four inputs. -/
def LineUnit.input (u : LineUnit) : Line → Input
  | .dis => u.dis
  | .cnl => u.cnl
  | .txinh => u.txinh
  | .cd => u.cd

/-- Replace one of the four inputs. -/
def LineUnit.setInput (u : LineUnit) (l : Line) (x : Input) : LineUnit :=
  match l with
  | .dis => { u with dis := x }
  | .cnl => { u with cnl := x }
  | .txinh => { u with txinh := x }
  | .cd => { u with cd := x }

/-- A line's filter time in ms (R191). -/
def State.filterTime (s : State) : Line → Nat
  | .dis => 3000
  | .cnl => 3000
  | .txinh => 20
  | .cd => s.cfg.cdFilter

/-- A raw pin level is the asserted one: DIS and CNL low, TXINH and CD high (10.1). -/
def rawAsserted (l : Line) (high : Bool) : Bool :=
  match l with
  | .dis | .cnl => !high
  | .txinh | .cd => high

/-- Seconds from a window's start to a time of day, counted modulo a day (R129). -/
def Window.since (w : Window) (tod : Nat) : Nat := (tod + 86400 - 60 * w.start) % 86400

/-- The state a window's spans give at a time of day (R130). -/
def Window.stateAt (w : Window) (tod : Nat) : WindowState :=
  if w.since tod < 60 * w.duration then .active
  else if w.quiet && 86400 - 120 ≤ w.since tod then .guard
  else .inactive

/-- The day count of the latest close instant at a reading, for close hour `h` (R145). -/
def latestClose (h : Nat) (r : Reading) : Nat :=
  if h * 3600 ≤ r.secs then r.day else (r.day + 65535) % 65536

/-- Day count `d` is later than `d0` (R145). -/
def laterDay (d d0 : Nat) : Bool :=
  let k := (d + 65536 - d0) % 65536
  1 ≤ k && k ≤ 32767

end Sys2Proof.Machine
end

