-- ==== Sys2Proof/Machine/Net.lean ====
section
/-! DEFINITION. The net monitor's station table (R52 to R63): recording, hearing, feeding, marking, pinning, ranking,
and its answers to the link controller. -/

namespace Sys2Proof.Machine

/-- The entry of a call. -/
def State.station (s : State) (call : Nat) : Option Station := s.nm.table.find? fun e => e.call = call

/-- Change the entry of a call, if it has one. -/
def State.onStation (s : State) (call : Nat) (f : Station → Station) : State :=
  { s with nm := { s.nm with table := s.nm.table.map fun e => if e.call = call then f e else e } }

/-- Change the table. -/
def State.onTable (s : State) (f : Station → Station) : State :=
  { s with nm := { s.nm with table := s.nm.table.map f } }

/-- The two tests of R53: in 10000–99999, and not the own call. -/
def State.callValid (s : State) (call : Nat) : Bool :=
  10000 ≤ call && call ≤ 99999 && s.cfg.ownCall ≠ some call

/-- An entry is pinned when it has at least one pin reason (R52). -/
def Station.pinned (e : Station) : Bool := e.pins.port || e.pins.schedule || e.pins.distress || e.pins.peer

/-- `a` is replaced rather than `b`: never heard before heard, then the earlier, then the lower call (R53). -/
def Station.lessRecent (a b : Station) : Bool :=
  match a.lastHeard, b.lastHeard with
  | none, none => a.call < b.call
  | none, some _ => true
  | some _, none => false
  | some x, some y => x < y || (x = y && a.call < b.call)

/-- A new entry (R53). -/
def Station.fresh (call now : Nat) : Station :=
  { call := call, q := startQ, heardCount := 0, lastHeard := none, state := .quiet, stateTime := now,
    partner := none, pins := .empty }

/-- Enter a valid call without an entry: in a free place, or in place of the least recently heard unpinned entry
(R53). Should every entry of a full table be pinned, which R53 shows cannot be, nothing is entered. -/
def NetMonitor.enter (n : NetMonitor) (call now : Nat) : NetMonitor :=
  if n.table.length < 24 then { n with table := n.table ++ [Station.fresh call now] }
  else match firstBy Station.lessRecent (n.table.filter fun e => !e.pinned) with
    | some old =>
      { n with table := (n.table.filter fun e => e.call ≠ old.call) ++ [Station.fresh call now],
               replaced := bump n.replaced }
    | none => n

/-- Count a rejected call (R53). -/
def State.rejectCall (s : State) : State := { s with nm := { s.nm with rejected := bump s.nm.rejected } }

/-- Record a call: whether it could be, and the state after (R53). -/
def State.recordCall (s : State) (call : Nat) : Bool × State :=
  if s.callValid call then
    if (s.station call).isSome then (true, s) else (true, { s with nm := s.nm.enter call s.now })
  else (false, s.rejectCall)

/-- A hearing of a station: last heard now, heard count one more (R52). -/
def State.hear (s : State) (call : Nat) : State :=
  s.onStation call fun e => { e with lastHeard := some s.now, heardCount := bump e.heardCount }

/-- Feed a station's accumulator with a sample (R30). -/
def State.feedStation (s : State) (call sample : Nat) : State :=
  s.onStation call fun e => { e with q := feedQ e.q sample }

/-- Mark an entry CALLING or IN-SESSION with a partner, by an overheard pair or link (R59). The current peer's state
and partner stay; DISTRESS stays and takes the partner. -/
def State.markOverheard (s : State) (call : Nat) (st : StationState) (partner : Nat) : State :=
  s.onStation call fun e =>
    if e.pins.peer then e
    else if e.state = .distress then { e with partner := some partner }
    else { e with state := st, partner := some partner, stateTime := s.now }

/-- The other station of an overheard-link record. -/
def Overheard.other (o : Overheard) (call : Nat) : Nat := if call = o.caller then o.called else o.caller

/-- The record from now on: a swap heard in the cycle before has its stations change roles once its cycle begins (R57). -/
def Overheard.settled (o : Overheard) (now : Nat) : Overheard :=
  match o.swapAt with
  | some t => if t ≤ now then { o with sender := o.other o.sender, swapAt := none } else o
  | none => o

/-- QUIET with the partner cleared. -/
def Station.toQuiet (e : Station) (now : Nat) : Station :=
  { e with state := .quiet, partner := none, stateTime := now }

/-- CALLING or IN-SESSION. -/
def Station.linked (e : Station) : Bool := e.state = .calling || e.state = .inSession

/-- The overheard link ended by a close or break: an entry CALLING or IN-SESSION that is not the current peer
becomes QUIET (R58, R59). -/
def State.quietOverheard (s : State) (call : Nat) : State :=
  s.onStation call fun e => if e.linked && !e.pins.peer then e.toQuiet s.now else e

/-- The link controller names its peer: recorded, pinned PEER, partner own call, CALLING unless DISTRESS (R60). The state
time of a peer in DISTRESS stays: DESIGN CHOICE, log entry 60. -/
def State.namePeer (s : State) (call : Nat) : State :=
  let (ok, t) := s.recordCall call
  if ok then
    t.onStation call fun e =>
      { e with pins := { e.pins with peer := true }, partner := t.cfg.ownCall,
               state := if e.state = .distress then .distress else .calling,
               stateTime := if e.state = .distress then e.stateTime else t.now }
  else t

/-- The peer's entry is IN-SESSION from the entry to SENDING or RECEIVING (R60). -/
def State.peerInSession (s : State) : State :=
  s.onTable fun e =>
    if e.pins.peer && e.state ≠ .distress then { e with state := .inSession, stateTime := s.now } else e

/-- The link controller confirms the peer's state at each cycle (R60, R67); a peer in DISTRESS keeps its state time:
DESIGN CHOICE, log entry 60. -/
def State.confirmPeer (s : State) : State :=
  s.onTable fun e => if e.pins.peer && e.linked then { e with stateTime := s.now } else e

/-- The link controller returns to IDLE: the PEER reason is removed, and the entry is QUIET unless DISTRESS (R60). -/
def State.releasePeer (s : State) : State :=
  s.onTable fun e =>
    if e.pins.peer then
      let e' := { e with pins := { e.pins with peer := false } }
      if e.state = .distress then e' else e'.toQuiet s.now
    else e

/-- Pin a call for a reason (R61). -/
def State.pinCall (s : State) (call : Nat) (f : Pins → Pins) : State :=
  let (ok, t) := s.recordCall call
  if ok then t.onStation call fun e => { e with pins := f e.pins } else t

/-- Pin and mark an alert's origin DISTRESS (R61, R62). -/
def State.markDistress (s : State) (call : Nat) : State :=
  let (ok, t) := s.recordCall call
  if ok then
    t.onStation call fun e =>
      { e with pins := { e.pins with distress := true }, state := .distress, stateTime := t.now }
  else t

/-- Withdraw the DISTRESS pin reason and mark: QUIET, or for the current peer CALLING or IN-SESSION as the link
controller's state gives (R59, R62). -/
def State.unmarkDistress (s : State) (call : Nat) : State :=
  s.onStation call fun e =>
    let e' := { e with pins := { e.pins with distress := false } }
    if e.state = .distress then
      if e.pins.peer then
        { e' with state := if s.link.phase.inSession then .inSession else .calling, partner := s.cfg.ownCall,
                  stateTime := s.now }
      else e'.toQuiet s.now
    else e'

/-- An entry has been CALLING or IN-SESSION for 120 s since its state time and is not the current peer (R59). -/
def Station.aged (e : Station) (now : Nat) : Bool :=
  e.linked && !e.pins.peer && e.stateTime + Config.agingMs ≤ now

/-- "Destination engaged" (R63). -/
def State.engaged (s : State) (dest : Nat) : Bool :=
  match s.station dest with
  | some e =>
    e.linked && (match e.partner with
      | some p => s.cfg.ownCall ≠ some p
      | none => false)
  | none => false

/-- "Port office quality": too weak when heard within 30 min with P below the call threshold (R36, R63). -/
def State.tooWeak (s : State) (call : Nat) : Bool :=
  match s.station call with
  | some e =>
    (match e.lastHeard with
      | some t => s.now - t ≤ Config.recentMs && percentOf e.q < s.cfg.threshold
      | none => false)
  | none => false

/-- The order in which the table is read: P descending, last heard most recent first with never last, call ascending
(R64). -/
def Station.ranksBefore (a b : Station) : Bool :=
  let p := percentOf a.q
  let r := percentOf b.q
  if p ≠ r then r < p
  else match a.lastHeard, b.lastHeard with
    | some x, some y => if x ≠ y then y < x else a.call < b.call
    | some _, none => true
    | none, some _ => false
    | none, none => a.call < b.call

/-- The table in rank order (R64). -/
def State.ranked (s : State) : List Station := sortBy Station.ranksBefore s.nm.table

end Sys2Proof.Machine
end

