-- ==== Sys2Proof/Machine/LinkCore.lean ====
section
/-! DEFINITION. The link controller outside a session: considering an attempt, CLEARING and BACKOFF (R68 to R71), and
what the other blocks report to it: clear and not clear, restrictions, and demands to stop (R70, R86). With these
stand the busy judgement (R50, R51) and the silence event (R181, R182), which report to it. -/

namespace Sys2Proof.Machine

/-- Tests 1–6 of R69 for a destination and an attempt class. -/
def State.passes (s : State) (dest cls : Nat) : Bool :=
  s.cfg.ownCall.isSome
    && (!s.ownDistress || cls = 3)
    && (!s.silence || cls = 3)
    && (!s.guardOn || cls = 3)
    && !s.engaged dest
    && !(s.cfg.portOffice = some dest && s.tooWeak dest)

/-- The opening record of a consideration: the first in queue order that is eligible and whose destination passes.
A destination that failed with an earlier record fails with a later one too, whose class is no higher (R69). -/
def State.openingRecord (s : State) : Option OutRec :=
  s.q.out.find? fun r => r.eligible s.now && s.passes r.dest r.cls

/-- Enter BACKOFF with a fresh draw of 0–15 (R34, R71). -/
def State.enterBackoff (s : State) : State :=
  { s with
    gen := { s.gen with draws := s.gen.draws + 1 }
    link := { s.link with phase := .backoff, backoffStart := s.now,
                          backoffCount := (Config.backoffDraw s.gen.state s.gen.draws).val } }

/-- Consider starting an attempt: from CONFIG CLOSED on, in IDLE (R68 to R70). -/
def State.consider (s : State) : State :=
  if s.link.phase = .idle && s.configClosed then
    match s.openingRecord with
    | some r =>
      let t := { s with link := { s.link with
        phase := .clearing, attempt := some { dest := r.dest, opening := r.ref, cls := r.cls } } }
      if s.nm.clear then t.enterBackoff else t
    | none => s
  else s

/-- Enter IDLE with nothing running; the 5 s considerations start again (R68). -/
def State.enterIdle (s : State) : State :=
  { s with link := { s.link with phase := .idle, attempt := none, session := none, pendingBreak := none,
                                 considerAt := s.now + Config.considerMs } }

/-- CLEARING or BACKOFF. -/
def Phase.waiting : Phase → Bool
  | .clearing | .backoff => true
  | _ => false

/-- A restriction arises: an attempt of class 0–2 in CLEARING or BACKOFF returns to IDLE uncounted, and IDLE
considers at once (R70, R71). -/
def State.restrictAttempt (s : State) : State :=
  match s.link.attempt with
  | some a => if s.link.phase.waiting && a.cls ≠ 3 then s.enterIdle.consider else s
  | none => s

/-- The net monitor reports the channel clear (R70). -/
def State.channelClear (s : State) : State := if s.link.phase = .clearing then s.enterBackoff else s

/-- The net monitor reports the channel no longer clear (R71). -/
def State.channelNotClear (s : State) : State :=
  if s.link.phase = .backoff then { s with link := { s.link with phase := .clearing } } else s

/-- A demand to stop: in CALLING to ENDING, the first cause that breaks the current session sets the pending break
reason. Own distress breaks every class, the others 0–2 (R86). -/
def State.demandBreak (s : State) (reason : BreakReason) : State :=
  if (s.lowerSession || (reason = .distress && s.link.phase.running)) && s.link.pendingBreak.isNone then
    { s with link := { s.link with pendingBreak := some reason } }
  else s

/-- The busy judgement is made again; a change is reported, and starts or stops the clear-interval timer (R50, R51). -/
def State.judgeBusy (s : State) : State :=
  let b := s.judgedBusy
  if b = s.nm.busy then s
  else if b then
    State.channelNotClear { s with nm := { s.nm with busy := true, clear := false, clearStart := none } }
  else { s with nm := { s.nm with busy := false, clearStart := if s.key then none else some s.now } }

/-- A silence event: the 15 min run again from now; silence coming into force is reported, which breaks a session
of class 0–2 with reason S and stops an attempt of class 0–2 (R181, R182). -/
def State.silenceEvent (s : State) : State :=
  let t := { s with dis := { s.dis with lastSilence := some s.now } }
  if s.silence then t else (t.demandBreak .silence).restrictAttempt

end Sys2Proof.Machine
end

