-- ==== Sys2Proof/Machine/Bulletins.lean ====
section
/-! DEFINITION. The bulletin receiver (chapter 7): headers, selection, heard list, records and reclaiming, the end
decision, readout, and the forecast schedule with its guard, grace and missed judgement. -/

namespace Sys2Proof.Machine

/-! ### Records (R111, R112) -/

/-- Subjects G, D and S (R115, R119). -/
def mustKeep (subject : Nat) : Bool := subject = 71 || subject = 68 || subject = 83

/-- A bulletin record is distress-class when its subject is D or S (R39). -/
def distressSubject (subject : Nat) : Bool := subject = 68 || subject = 83

/-- The RECEIVING record. -/
def State.receivingBul (s : State) : Option BulRec := s.bul.recs.find? fun r => r.state = .receiving

/-- The bulletin record of an index. -/
def State.bulRec (s : State) (index : Nat) : Option BulRec := s.bul.recs.find? fun r => r.index = index

/-- Change the bulletin receiver. -/
def State.onBul (s : State) (f : Bulletins → Bulletins) : State := { s with bul := f s.bul }

/-- Change the record of an index. -/
def State.onRec (s : State) (index : Nat) (f : BulRec → BulRec) : State :=
  s.onBul fun b => { b with recs := b.recs.map fun r => if r.index = index then f r else r }

/-- Remove a record and free its chain. -/
def State.removeBul (s : State) (index : Nat) : State :=
  { s with store := s.store.free (.bul index),
           bul := { s.bul with recs := s.bul.recs.filter fun r => r.index ≠ index } }

/-- The oldest of some records: the earliest start (R111). -/
def oldestOf (recs : List BulRec) : Option BulRec := firstBy (fun a b => a.start < b.start) recs

/-- The next index (R111). -/
def Bulletins.nextIndex (b : Bulletins) : Nat := nextFree 255 (fun n => b.recs.all fun r => r.index ≠ n) 255 b.index

/-- The identity's items: origin letters, subject and area as text, serial as its two digits. -/
def BulId.fields (i : BulId) : List Field :=
  [.text [i.origin1, i.origin2], .text [i.subject], .text [i.area], .text (digitCodes 2 i.serial)]

/-- An ending as its place in R111's list, END being 0. -/
def endingField : Option Ending → Field
  | some .whole => .num 1 0
  | some (.cut c) => .num 1 (1 + c.ctorIdx)
  | none => .absent 1

/-- The whole or cut-short mark: 0 whole, 1 cut short. -/
def wholeField : Option Ending → Field
  | some .whole => .num 1 0
  | some (.cut _) => .num 1 1
  | none => .absent 1

/-! ### Reclaiming and taking (R119, R120) -/

/-- The record reclaimed for a bulletin of a subject, if a candidate exists (R119). -/
def Bulletins.candidate (b : Bulletins) (subject : Nat) : Option BulRec :=
  match oldestOf (b.recs.filter fun r => r.state = .held && r.read) with
  | some r => some r
  | none =>
    if mustKeep subject then
      oldestOf (b.recs.filter fun r => r.state = .held && !r.read && !mustKeep r.id.subject)
    else none

/-- A bulletin refused: STORE FULL and a BULLETIN REFUSED notice with the cause, 0 no record, 1 no page, and the
store's counts for the BULLETIN class (R119). -/
def State.refuseBul (s : State) (id : BulId) (cause : Nat) : State :=
  (s.onBul fun b => { b with storeFull := bump b.storeFull }).notice 21
    (id.fields ++ [.num 1 cause, .num 2 (s.store.quotaCount .bulletin), .num 1 (s.store.reserveCount .bulletin)])

/-- A record as created (R119). -/
def State.newBul (s : State) (id : BulId) : BulRec :=
  { index := s.bul.nextIndex, id := id, start := s.now, startTod := s.tod, c := 0, e := 0, r := none, pf := none,
    ending := none, poor := false, truncated := false, read := false, state := .receiving }

/-- Take a record and its first page, reclaiming while one of them is lacking and a candidate stands (R119). Each
reclaim removes one of at most 32 records, so 33 rounds always decide. -/
def storeBul (id : BulId) : Nat → State → State
  | 0, s => s.refuseBul id 1
  | fuel + 1, s =>
    if 32 ≤ s.bul.recs.length then
      match s.bul.candidate id.subject with
      | some old => storeBul id fuel (s.removeBul old.index)
      | none => s.refuseBul id 0
    else
      let r := s.newBul id
      match s.store.take (.bul r.index) .bulletin (distressSubject id.subject) 1 with
      | (.granted, store) => { s with store := store, bul := { s.bul with recs := s.bul.recs ++ [r], index := r.index } }
      | (.quotaFull .., store) =>
        let t := { s with store := store }
        match t.bul.candidate id.subject with
        | some old => storeBul id fuel (t.removeBul old.index)
        | none => t.refuseBul id 1

/-- Take one more page for the RECEIVING record, reclaiming as for a record (R120). -/
def takeBulPage (r : BulRec) : Nat → State → Bool × State
  | 0, s => (false, s)
  | fuel + 1, s =>
    match s.store.take (.bul r.index) .bulletin (distressSubject r.id.subject) 1 with
    | (.granted, store) => (true, { s with store := store })
    | (.quotaFull .., store) =>
      let t := { s with store := store }
      match t.bul.candidate r.id.subject with
      | some old => takeBulPage r fuel (t.removeBul old.index)
      | none => (false, t)

/-- The record becomes truncated, which is counted once (R120, R123). A record restarted in place has its flag cleared
(R122), and a truncation after that is counted again: DESIGN CHOICE, log entry 68. -/
def State.truncateBul (s : State) (r : BulRec) : State :=
  if r.truncated then s
  else (s.onRec r.index fun x => { x with truncated := true }).onBul fun b =>
    { b with truncations := bump b.truncations }

/-- Write a character into a record, counting C and E. -/
def State.writeBul (s : State) (r : BulRec) (code : Nat) : State :=
  (s.onStore fun st => st.write (.bul r.index) [code]).onRec r.index fun x =>
    { x with c := x.c + 1, e := if code = 127 then x.e + 1 else x.e }

/-- A body character handed, as a text code (R120, R122). -/
def State.bulBody (s : State) (code : Nat) : State :=
  match s.receivingBul with
  | some r =>
    if s.bul.suspended.isSome || r.truncated then s
    else if r.c < 256 * s.store.pagesOf (.bul r.index) then s.writeBul r code
    else if s.cfg.pageLimit ≤ s.store.pagesOf (.bul r.index) then s.truncateBul r
    else match takeBulPage r 33 s with
      | (true, t) => t.writeBul r code
      | (false, t) => t.truncateBul r
  | none => s

/-! ### The end of a reception (R121 to R126) -/

/-- Broadcast the BULLETIN NOTICE of a copy kept, and count it STORED (R126). -/
def State.keepNotice (s : State) (r : BulRec) (replaced : Option Nat) : State :=
  (s.onBul fun b => { b with stored := bump b.stored }).notice 20
    ([.num 1 r.index] ++ r.id.fields ++ [todOr r.startTod, .num 2 r.c, .num 2 r.e, numOr 2 r.r, numOr 1 r.pf,
      flag r.poor, flag r.truncated, wholeField r.ending, endingField r.ending, numOr 1 replaced])

/-- A closed copy is kept: HELD, with its notice. -/
def State.keepBul (s : State) (r : BulRec) (replaced : Option Nat) : State :=
  (s.onRec r.index fun x => { x with state := .held }).keepNotice r replaced

/-- The new copy ranks above the existing one: whole above cut short, then the lower r (R124). -/
def ranksAbove (new old : BulRec) : Bool :=
  match new.ending == some .whole, old.ending == some .whole with
  | true, false => true
  | false, true => false
  | _, _ => new.r.getD 0 < old.r.getD 0

/-- The heard list entry of an identity. -/
def State.heardOf (s : State) (id : BulId) : Option Heard := s.bul.heardList.find? fun h => h.id = id

/-- The end decision for a copy that has just closed (R124). -/
def State.endDecision (s : State) (r : BulRec) : State :=
  let whole := r.ending == some .whole
  if r.id.serial = 0 then
    if whole || 1 ≤ r.c then s.keepBul r none else s.removeBul r.index
  else
    let others := s.bul.recs.filter fun x => x.index ≠ r.index && x.id = r.id
    if others.any fun x => x.state = .reading then s.removeBul r.index
    else match others.find? fun x => x.state = .held with
      | some old =>
        if ranksAbove r old then (s.removeBul old.index).keepBul r (some old.index) else s.removeBul r.index
      | none =>
        let keep := match s.heardOf r.id with
          | some h => whole && r.r.getD 0 < h.best
          | none => whole || 1 ≤ r.c
        if keep then s.keepBul r none else s.removeBul r.index

/-- Make a heard list entry, in place of the one least recently heard when 64 stand (R117). -/
def Bulletins.makeHeard (b : Bulletins) (h : Heard) : Bulletins :=
  if b.heardList.length < 64 then { b with heardList := b.heardList ++ [h] }
  else match firstBy (fun x y => x.lastHeard < y.lastHeard) b.heardList with
    | some old => { b with heardList := (b.heardList.filter fun x => x.id ≠ old.id) ++ [h] }
    | none => { b with heardList := b.heardList ++ [h] }

/-- A whole copy with a serial other than "00" updates the heard list, kept or not (R125). -/
def State.heardUpdate (s : State) (r : BulRec) : State :=
  if r.ending == some .whole && r.id.serial ≠ 0 then
    match s.heardOf r.id with
    | some _ => s.onBul fun b => { b with heardList := b.heardList.map fun h =>
        if h.id = r.id then { h with best := min h.best (r.r.getD 0), lastHeard := s.now } else h }
    | none => s.onBul fun b => b.makeHeard { id := r.id, best := r.r.getD 0, lastHeard := s.now }
  else s

/-- A RECEIVING record as closed: its ending, r, P_f and poor flag, and for a cut its truncated flag
(R121, R123). -/
def BulRec.close (r : BulRec) (ending : Ending) (pf poorLimit : Nat) : BulRec :=
  let ratio := erasureRatio r.c r.e
  { r with ending := some ending, r := some ratio, pf := some pf, poor := poorLimit < ratio,
           truncated := r.truncated || ending != .whole }

/-- Close the RECEIVING record, make its end decision and update the heard list (R121, R123 to R126). -/
def State.closeBul (s : State) (ending : Ending) (pf : Nat) : State :=
  match s.receivingBul with
  | some r =>
    let t := if ending == .whole then s else s.truncateBul r
    let closed := r.close ending pf s.cfg.poorLimit
    let u := (t.onRec r.index fun _ => closed).onBul fun b => { b with suspended := none }
    (u.endDecision closed).heardUpdate closed
  | none => s.onBul fun b => { b with suspended := none }

/-- END handed with the frame's quality figures (R121). -/
def State.bulEnd (s : State) (n sum : Nat) : State := s.closeBul .whole (framePercent n sum)

/-- A bulletin cut short, with its cause (R122, R123): a record suspended by a BEGIN keeps its own frame's figures. -/
def State.bulCut (s : State) (cause : CutCause) (n sum : Nat) : State :=
  match s.bul.suspended with
  | some (m, msum) => s.closeBul (.cut cause) (framePercent m msum)
  | none => s.closeBul (.cut cause) (framePercent n sum)

/-- A BEGIN in the body: the RECEIVING record takes nothing until the new header is handed (R122). -/
def State.bulBegin (s : State) (n sum : Nat) : State :=
  if s.receivingBul.isSome && s.bul.suspended.isNone then s.onBul fun b => { b with suspended := some (n, sum) }
  else s

/-! ### Headers (R113 to R118, R134) -/

/-- The identity of a header, when readable; the characters are those of positions 1 to 6 (R113). -/
def readHeader (chars : List (Option Nat)) : Option BulId :=
  match letterAt (chars.getD 0 none), letterAt (chars.getD 1 none), letterAt (chars.getD 2 none),
      letterAt (chars.getD 3 none), readNumber [chars.getD 4 none, chars.getD 5 none] with
  | some o1, some o2, some su, some ar, some n => some { origin1 := o1, origin2 := o2, subject := su, area := ar,
                                                         serial := n }
  | _, _, _, _, _ => none

/-- A letter stands in a set. -/
def inSet (set : BitVec 26) (letter : Nat) : Bool := set.getLsbD (letter - 65)

/-- A window's origin letters are those of a header. -/
def Window.hasOrigin (w : Window) (o1 o2 : Nat) : Bool := w.origin1 = o1 && w.origin2 = o2

/-- The selection (R115). -/
def Bulletins.selects (b : Bulletins) (id : BulId) : Bool :=
  mustKeep id.subject
    || (inSet b.subjects id.subject && inSet b.areas id.area
      && (match b.origins with
        | .any => true
        | .schedule => b.windows.any fun w => w.win.hasOrigin id.origin1 id.origin2))

/-- A readable header sets the heard mark of each ACTIVE window it fits (R134). -/
def Bulletins.offer (b : Bulletins) (id : BulId) : Bulletins :=
  { b with windows := b.windows.map fun w =>
      if w.state = .active && w.win.hasOrigin id.origin1 id.origin2 && w.win.subject = id.subject then
        { w with heard := true }
      else w }

/-- The heard list at a selected header: last heard now, and whether the header is a duplicate (R118). -/
def State.lookUp (s : State) (id : BulId) : Bool × State :=
  if id.serial = 0 then (false, s)
  else match s.heardOf id with
    | some h =>
      (h.best ≤ s.cfg.goodLimit, s.onBul fun b => { b with heardList := b.heardList.map fun x =>
        if x.id = id then { x with lastHeard := s.now } else x })
    | none => (false, s)

/-- Restart the RECEIVING record in place (R122). -/
def State.restartBul (s : State) (r : BulRec) : State :=
  ((s.onStore fun st => (st.cutBack (.bul r.index) 1).lower (.bul r.index) 0).onRec r.index fun x =>
    { x with c := 0, e := 0, truncated := false, start := s.now, startTod := s.tod }).onBul fun b =>
      { b with suspended := none }

/-- Steps 2 to 6 of R113. -/
def State.judgeHeader (s : State) (header : Option BulId) : State :=
  match header with
  | none => s.onBul fun b => { b with unreadable := bump b.unreadable }
  | some id =>
    let t := s.onBul fun b => b.offer id
    if t.bul.selects id then
      match t.lookUp id with
      | (true, u) => u.onBul fun b => { b with duplicate := bump b.duplicate }
      | (false, u) => storeBul id 40 u
    else t.onBul fun b => { b with filtered := bump b.filtered }

/-- A header handed by the decoder (R113, R122). -/
def State.bulHeader (s : State) (chars : List (Option Nat)) : State :=
  let t := s.onBul fun b => { b with headers := bump b.headers }
  let header := readHeader chars
  match t.receivingBul, t.bul.suspended with
  | some r, some (n, sum) =>
    if header = some r.id then (t.restartBul r).onBul fun b => b.offer r.id
    else (t.closeBul (.cut .newBegin) (framePercent n sum)).judgeHeader header
  | _, _ => t.judgeHeader header

/-- The coast call a bulletin is attributed to: that of the first window of its origin letters (R54). -/
def State.bulSender (s : State) (chars : List (Option Nat)) : Option Nat :=
  match letterAt (chars.getD 0 none), letterAt (chars.getD 1 none) with
  | some o1, some o2 => (s.bul.windows.find? fun w => w.win.hasOrigin o1 o2).map fun w => w.win.coast
  | _, _ => none

/-! ### Readout (R127, R128) -/

/-- READ BULLETIN accepted: the record becomes READING. -/
def State.bulReading (s : State) (index : Nat) : State := s.onRec index fun r => { r with state := .reading }

/-- The readout ended, with END OF TEXT or without (R128). -/
def State.bulReadEnd (s : State) (index : Nat) (whole : Bool) : State :=
  s.onRec index fun r => { r with state := .held, read := r.read || whole }

/-- The record "next" names: the oldest HELD without the read flag (R127). -/
def Bulletins.nextUnread (b : Bulletins) : Option BulRec := oldestOf (b.recs.filter fun r => r.state = .held && !r.read)

/-! ### The schedule (R129 to R134) -/

/-- Report a change of the guard indication: coming into force stops an attempt of class 0–2 (R132). -/
def State.guardReport (s : State) (before : Bool) : State :=
  if s.guardOn && !before then s.restrictAttempt else s

/-- A window becomes ACTIVE: its heard mark clear, and a quiet one starts its grace when a session of class 0–2 runs
(R130, R133). -/
def State.activate (s : State) (w : LiveWindow) : LiveWindow :=
  { w with state := .active, heard := false,
           grace := if w.win.quiet && s.lowerSession then some (s.now + Config.graceMs) else none }

/-- Replace window `k`, counted from 1. -/
def State.putWindow (s : State) (k : Nat) (w : LiveWindow) : State :=
  s.onBul fun b => { b with windows := b.windows.set (k - 1) w }

/-- The missed judgement of window `k` at its end (R134). -/
def State.missedJudgement (s : State) (k : Nat) (w : LiveWindow) : State :=
  if w.heard then s
  else (s.onBul fun b => { b with missed := bump b.missed }).notice 22
    [.num 1 k, .num 3 w.win.coast, .text [w.win.origin1, w.win.origin2], .text [w.win.subject], .num 2 w.win.start,
      .num 1 w.win.duration]

/-- A window that is not ACTIVE takes the state given. -/
def State.settle (s : State) (w : LiveWindow) (st : WindowState) : LiveWindow :=
  if st = .active then s.activate w else { w with state := st, heard := false, grace := none }

/-- A window's grace has run out: its 180 s have passed. -/
def LiveWindow.graceOut (w : LiveWindow) (now : Nat) : Bool :=
  match w.grace with
  | some t => t ≤ now
  | none => false

/-- A window ends or is withdrawn: its grace is withdrawn with it only before the 180 s pass, so one that has run out by
then is told to the link controller, reason W (R133). -/
def State.endGrace (s : State) (w : LiveWindow) : State :=
  if w.graceOut s.now then s.demandBreak .window else s

/-- Window `k` takes the state its spans give as the clock runs (R130). -/
def State.windowRun (s : State) (k : Nat) (w : LiveWindow) (st : WindowState) : State :=
  if w.state = st then s
  else
    let t := if w.state = .active then (s.endGrace w).missedJudgement k w else s
    (t.putWindow k (t.settle w st)).guardReport s.guardOn

/-- Milliseconds from a window's start to a reading. -/
def Window.sinceMs (w : Window) (ms : Nat) : Nat := (ms % dayMs + dayMs - 60000 * w.start) % dayMs

/-- A step took the reading from `old` by `delta` ms forward or backward: an ACTIVE window is ended by a forward step
past the end of its span, withdrawn by a backward step past its start, and every window takes the state its spans give
(R131). -/
def State.windowStep (s : State) (k : Nat) (w : LiveWindow) (old : Nat) (forward : Bool) (delta : Nat) : State :=
  match s.tod with
  | some tod =>
    let st := w.win.stateAt tod
    if w.state = .active then
      if forward && 60000 * w.win.duration - w.win.sinceMs old ≤ delta then
        let t := (s.endGrace w).missedJudgement k w
        t.putWindow k (t.settle w st)
      else if !forward && w.win.sinceMs old < delta then (s.endGrace w).putWindow k (s.settle w st)
      else s
    else s.putWindow k (if st = w.state then w else s.settle w st)
  | none => s

/-- Every window, in window order, from number `k` on. -/
def stepFrom (old : Nat) (forward : Bool) (delta : Nat) : Nat → List LiveWindow → State → State
  | _, [], s => s
  | k, w :: rest, s => stepFrom old forward delta (k + 1) rest (s.windowStep k w old forward delta)

/-- A clock step, or the first setting of the clock, when no window is ACTIVE (R131). -/
def State.stepWindows (s : State) (old : Nat) (forward : Bool) (delta : Nat) : State :=
  (stepFrom old forward delta 1 s.bul.windows s).guardReport s.guardOn

/-- The clock has reached a boundary of window `k` (R130). -/
def State.windowDue (s : State) (k : Nat) : Bool :=
  match s.tod, s.bul.windows[k - 1]? with
  | some tod, some w => 1 ≤ k && w.win.stateAt tod ≠ w.state
  | _, _ => false

/-- The grace of window `k` has run out (R133). -/
def State.graceDue (s : State) (k : Nat) : Bool :=
  match s.bul.windows[k - 1]? with
  | some w => 1 ≤ k && w.graceOut s.now
  | none => false

/-- A heard list entry has stood 72 h since its last heard (R117). -/
def Heard.expired (h : Heard) (now : Nat) : Bool := h.lastHeard + Config.heardMs ≤ now

end Sys2Proof.Machine
end

