-- ==== Sys2Proof/Machine/Distress.lean ====
section
/-! DEFINITION. The distress unit (chapter 9): own distress and its bursts, the distress list, watches, relays and the
frame queue, the ALARM output and its notices. The silence event stands in `LinkCore`. -/

namespace Sys2Proof.Machine

/-! ### The BURST and FRAME positions (R19, R165) -/

/-- The kind of frame in flight, if a frame is. -/
def Encoder.onAir (e : Encoder) : Option FrameKind :=
  match e.inFlight with
  | some t =>
    match t.item with
    | .frame r => some r.kind
    | .link _ => none
  | none => none

/-- An own burst waits at the BURST position or is in flight. -/
def State.burstOut (s : State) : Bool := s.enc.burst.isSome || s.enc.onAir = some .burst

/-- A relay or DCANCEL waits at the FRAME position or is in flight. -/
def State.frameOut (s : State) : Bool :=
  s.enc.frame.isSome || s.enc.onAir = some .relay || s.enc.onAir = some .dcancel

/-- The request that waits at a frame's position (R19). -/
def Encoder.waitingAt (e : Encoder) (k : FrameKind) : Option FrameReq :=
  match k with
  | .burst => e.burst
  | _ => e.frame

/-- Put a request at a frame's position. -/
def Encoder.putAt (e : Encoder) (r : FrameReq) : Encoder :=
  match r.kind with
  | .burst => { e with burst := some r }
  | _ => { e with frame := some r }

/-- The encoder tells the distress unit that a request was discarded or withdrawn (R19). Chapter 9 gives the unit
nothing to do on either report, so the state stands: DEDUCED, log entry 50. -/
def State.frameNotSent (s : State) (_ : FrameReq) (_ : TxReport) : State := s

/-- Place a BURST or FRAME request: one waiting at its position is replaced and reported withdrawn; without an own call
the request is discarded and reported not sent (R19). -/
def State.placeFrame (s : State) (r : FrameReq) : State :=
  if s.cfg.ownCall.isSome then
    let t := { s with enc := s.enc.putAt r }
    match s.enc.waitingAt r.kind with
    | some old => t.frameNotSent old .withdrawn
    | none => t
  else s.frameNotSent r .notSent

/-- A burst that waits with TXINH asserted is held: its hold timer starts, unless it runs (R165). -/
def State.holdBurst (s : State) : State :=
  if s.enc.burst.isSome && s.lines.txinh.asserted && s.dis.heldSince.isNone then
    { s with dis := { s.dis with heldSince := some s.now, holdDone := false } }
  else s

/-! ### Formats (R163, R164) -/

/-- A time of day as the four digits HHMM, read as one number. -/
def hhmmOf (tod : Nat) : Nat := tod / 3600 * 100 + tod / 60 % 60

/-- A latitude or longitude as degrees, minutes and letter, as indexes (R164). -/
def formatAngle (width pos neg : Nat) (v : Int) : List Nat :=
  digitIndexes width (v.natAbs / 60000) ++ digitIndexes 2 (v.natAbs % 60000 / 1000)
    ++ [cText (if 0 ≤ v then pos else neg)]

/-- The eleven position characters: latitude with "N" or "S", longitude with "E" or "W" (R164). -/
def formatPosition (p : Position) : List Nat := formatAngle 2 78 83 p.latitude ++ formatAngle 3 69 87 p.longitude

/-- A run of "?". -/
def queries (n : Nat) : List Nat := List.replicate n cQuery

/-- Four time characters, or "????". -/
def timeIndexes : Option Nat → List Nat
  | some t => digitIndexes 4 t
  | none => queries 4

/-- The position a burst placed now carries: the latest if it arrived within 600 s (R163). -/
def State.burstPosition (s : State) : List Nat :=
  match s.clock.position with
  | some p => if s.now - p.arrival ≤ Config.positionMs then formatPosition p else queries 11
  | none => queries 11

/-- The 23 field characters of an own burst (R163). -/
def State.burstFields (s : State) (own : Nat) : List Nat :=
  digitIndexes 5 own ++ digitIndexes 2 (s.dis.serial.getD 0) ++ [cText (s.dis.nature.getD 63)]
    ++ s.burstPosition ++ timeIndexes s.dis.alertTime

/-- The seven field characters of a DCANCEL (R168). -/
def State.cancelFields (s : State) (own : Nat) : List Nat :=
  digitIndexes 5 own ++ digitIndexes 2 (s.dis.serial.getD 0)

/-- The fields of a relay in R180's order, 28 characters as R14 and R163 count each of them. -/
def DistressEntry.relayListed (e : DistressEntry) (own : Nat) : List Nat :=
  digitIndexes 5 own ++ digitIndexes 5 e.origin ++ digitIndexes 2 e.serial ++ [cText (e.nature.getD 63)]
    ++ e.position.getD (queries 11) ++ timeIndexes e.time

/-- The field characters of a relay, 27 in all (R14, R180): the alert time's last digit is left out. DESIGN CHOICE, log
entry 51. -/
def DistressEntry.relayFields (e : DistressEntry) (own : Nat) : List Nat :=
  (e.relayListed own).take FrameType.relay.fields

/-! ### Own bursts (R162, R163, R165) -/

/-- Place a burst, unless one waits or is in flight: the alert time is taken at the first burst with the clock set,
the fields are fixed, the burst timer stands stopped, and under TXINH the burst is held at once. -/
def State.placeBurst (s : State) : State :=
  if s.burstOut then s
  else
    let t := { s with dis := { s.dis with
      burstAt := none, heldSince := none, holdDone := false, heldTold := false,
      alertTime := (match s.dis.alertTime with
        | some h => some h
        | none => s.tod.map hhmmOf) } }
    match t.cfg.ownCall with
    | some own => (t.placeFrame { kind := .burst, fields := t.burstFields own, placed := t.now }).holdBurst
    | none => t

/-- Bursts are kept going: ALERTING, or CANCEL-PENDING with the previous state ALERTING (R162). -/
def Distress.bursting (d : Distress) : Bool := d.own = .alerting || (d.own = .cancelPending && !d.prevAck)

/-- The burst interval I in seconds (R162). -/
def burstInterval (own : Nat) : Nat := 210 + 15 * (own % 5)

/-- The encoder reports a burst completed (R162, R181). -/
def State.burstCompleted (s : State) : State :=
  let t := { s with dis := { s.dis with
    bursts := bump s.dis.bursts,
    burstAt := if s.dis.bursting then some (s.now + 1000 * burstInterval (s.cfg.ownCall.getD 0)) else s.dis.burstAt } }
  t.silenceEvent

/-! ### Raising and cancelling (R160, R161, R167, R168) -/

/-- The serial drawn after a counter value: 99 is followed by 01 (R160). -/
def nextAlertSerial (counter : Nat) : Nat := counter % 99 + 1

/-- A raise in NONE enters ALERTING, in the five steps of R160. Silence comes into force with own distress, which
alone is reported to the link controller (R182, R183). -/
def State.enterAlerting (s : State) (nature : Nat) : State :=
  let n := nextAlertSerial s.dis.counter
  let t := { s with dis := { s.dis with
    own := .alerting, counter := n, serial := some n, nature := some nature, alertTime := s.tod.map hhmmOf,
    bursts := 0, burstAt := none } }
  ((t.demandBreak .distress).restrictAttempt).placeBurst

/-- A raise with own distress ALERTING or ACKNOWLEDGED: RAISE DISTRESS gives a nature, DIS gives none (R161). -/
def State.raiseAgain (s : State) (nature : Option Nat) : State :=
  let t := { s with dis := { s.dis with nature := (match nature with
    | some n => some n
    | none => s.dis.nature) } }
  match t.dis.own with
  | .alerting =>
    match nature with
    | some _ => t
    | none => ({ t with dis := { t.dis with burstAt := none } }).placeBurst
  | .acknowledged => ({ t with dis := { t.dis with own := .alerting } }).placeBurst
  | _ => t

/-- CANCEL-PENDING returns to its previous state, the cancel timer stopped. -/
def State.endPending (s : State) : State :=
  { s with dis := { s.dis with own := if s.dis.prevAck then .acknowledged else .alerting, cancelAt := none } }

/-- A raise with own distress in force other than CANCELLING (R161). -/
def State.raiseInForce (s : State) (nature : Option Nat) : State :=
  if s.dis.own = .cancelPending then s.endPending.raiseAgain nature else s.raiseAgain nature

/-- DISTRESS NOT SENT with its cause: 0 NO OWN CALL, 1 CANCELLING (R160, R161). -/
def State.distressNotSent (s : State) (cause : Nat) : State := s.notice 41 [.num 1 cause]

/-- An accepted assertion of DIS (R160, R161). -/
def State.disRaise (s : State) : State :=
  if s.cfg.ownCall.isNone then s.distressNotSent 0
  else match s.dis.own with
    | .none => s.enterAlerting 85
    | .cancelling => s.distressNotSent 1
    | _ => s.raiseInForce none

/-- Own alert serial, or none. -/
def State.serialField (s : State) : Field := numOr 1 s.dis.serial

/-- A frame joins the frame queue, without duplicates (R180). -/
def State.enqueue (s : State) (x : Queued) : State :=
  if s.dis.queue.contains x then s else { s with dis := { s.dis with queue := s.dis.queue ++ [x] } }

/-- A frame leaves the frame queue unplaced. -/
def State.dequeue (s : State) (x : Queued) : State :=
  { s with dis := { s.dis with queue := s.dis.queue.filter fun y => y ≠ x } }

/-- The entry of an origin. -/
def State.distressEntry (s : State) (origin : Nat) : Option DistressEntry :=
  s.dis.list.find? fun e => e.origin = origin

/-- Change the entry of an origin. -/
def State.onEntry (s : State) (origin : Nat) (f : DistressEntry → DistressEntry) : State :=
  { s with dis := { s.dis with list := s.dis.list.map fun e => if e.origin = origin then f e else e } }

/-- Place the head of the frame queue at the FRAME position when no frame is outstanding and no class-3 session runs
(R180). A relay placed makes its entry SENT (R179). -/
def State.tryPlaceFrame (s : State) : State :=
  if s.frameOut || s.classThree then s
  else match s.dis.queue, s.cfg.ownCall with
    | x :: rest, some own =>
      let t := { s with dis := { s.dis with queue := rest } }
      match x with
      | .dcancel => t.placeFrame { kind := .dcancel, fields := s.cancelFields own, placed := s.now }
      | .relay origin =>
        match s.distressEntry origin with
        | some e =>
          (t.placeFrame { kind := .relay, fields := e.relayFields own, placed := s.now }).onEntry origin fun e =>
            { e with relay := .sent, holdOff := none, due := false }
        | none => t
    | _, _ => s

/-- A DCANCEL or relay joins the queue, which is then considered. -/
def State.queueFrame (s : State) (x : Queued) : State := (s.enqueue x).tryPlaceFrame

/-- An accepted assertion of CNL (R167, R168). -/
def State.cnlAccepted (s : State) : State :=
  if s.dis.own = .cancelPending then
    State.queueFrame
      { s with dis := { s.dis with own := .cancelling, cancelAt := none, burstAt := none, cancelCount := 0,
                                   gapAt := none } } .dcancel
  else s

/-- Own distress returns to NONE; the lift of the AUX modes follows from the state (R168, R186). No nature, alert
time or serial is held in NONE, as at power-on (DEDUCED from R159, log entry 21); the burst count is kept until the next
raise (DESIGN CHOICE, log entry 80). -/
def State.endOwnDistress (s : State) : State :=
  { s with dis := { s.dis with own := .none, serial := none, nature := none, alertTime := none, cancelAt := none,
                               burstAt := none, gapAt := none } }

/-- The encoder reports a DCANCEL completed (R168, R181). -/
def State.cancelCompleted (s : State) : State :=
  let t := s.silenceEvent
  let n := holdAt 3 t.dis.cancelCount
  let u := { t with dis := { t.dis with cancelCount := n } }
  let v :=
    if u.dis.own = .cancelling then
      if n = 3 then u.endOwnDistress
      else { u with dis := { u.dis with gapAt := some (u.now + Config.cancelGapMs) } }
    else u
  v.tryPlaceFrame

/-- The encoder reports a relay completed (R180, R181, R187). -/
def State.relayCompleted (s : State) : State :=
  let t := { s with dis := { s.dis with relaysSent := bump s.dis.relaysSent } }
  t.silenceEvent.tryPlaceFrame

/-! ### ALARM (R184, R185) -/

/-- The ALARM output follows the distress list; pulsing starts with an on second, and the repeat timer runs exactly
while some entry not bridge-acknowledged has an EXPIRED watch. -/
def State.refreshAlarm (s : State) : State :=
  let a := alarmOf s.dis.list
  { s with dis := { s.dis with
    alarm := a,
    alarmOn := if a = s.dis.alarm then s.dis.alarmOn else a ≠ .off,
    pulseAt := if a = .pulsed && s.dis.alarm ≠ .pulsed then s.now + 1000 else s.dis.pulseAt,
    repeatAt := if a = .pulsed then
        (match s.dis.repeatAt with
          | some t => some t
          | none => some (s.now + Config.repeatMs))
      else none } }

/-- The entries not bridge-acknowledged. -/
def Distress.unacked (d : Distress) : List DistressEntry := d.list.filter fun e => !e.bridgeAck

/-- The most urgent unacknowledged entry: the oldest with an EXPIRED watch, or else the oldest (R185). -/
def Distress.mostUrgent (d : Distress) : Option DistressEntry :=
  match d.unacked.find? fun e => e.watch = .expired with
  | some e => some e
  | none => d.unacked.head?

/-- A letter or digits as text, or absent. -/
def letterField (n : Option Nat) : Field :=
  match n with
  | some c => .text [c]
  | none => .absent 1

/-- A position as its eleven characters, or absent. -/
def positionField (p : Option (List Nat)) : Field :=
  match p with
  | some xs => .text (xs.map (· + 32))
  | none => .absent 11

/-- An alert time as its four digits, or absent. -/
def timeField (t : Option Nat) : Field :=
  match t with
  | some h => .text (digitCodes 4 h)
  | none => .absent 4

/-- The most urgent entry's items in an ALARM notice (R185). -/
def urgentFields : Option DistressEntry → List Field
  | some e => [.num 3 e.origin, .num 1 e.serial, letterField e.nature, positionField e.position, timeField e.time,
      .num 1 e.best, flag e.coastAck.isSome, flag e.cancelled, .num 1 e.relays, .num 1 e.relay.ctorIdx]
  | none => [.absent 3, .absent 1, .absent 1, .absent 11, .absent 4, .absent 1, .absent 1, .absent 1, .absent 1,
      .absent 1]

/-- An ALARM notice: the cause, what caused it, the most urgent entry and the count of the others, then for NOT
TRACKED the frame's remaining fields and P_f (R185). -/
def State.alarmNotice (s : State) (cause : AlarmCause) (origin serial : Nat) (rest : List Field) : State :=
  s.notice 40 ([.num 1 cause.ctorIdx, .num 3 origin, .num 1 serial] ++ urgentFields s.dis.mostUrgent
    ++ [.num 1 (s.dis.unacked.length - 1)] ++ rest)

/-! ### Relaying (R178, R179) -/

/-- The hold-off starts: H from the best P_f as it stands, and WAITING (R33, R179). -/
def DistressEntry.startHoldOff (e : DistressEntry) (own now : Nat) : DistressEntry :=
  if e.relay = .idle then
    let h := holdOffOf e.best own
    { e with relay := .waiting, holdOff := some (h, now + 1000 * h), due := false }
  else e

/-- The relay state set at creation, at a reset and at CONFIG CLOSED (R178): `again` holds where BRIDGE mode starts
the hold-off at once, for an entry already bridge-acknowledged at CONFIG CLOSED. -/
def State.setRelayState (s : State) (e : DistressEntry) (again : Bool) : DistressEntry :=
  let e' := { e with holdOff := none, due := false }
  match s.cfg.relayMode, s.cfg.ownCall with
  | .off, _ => { e' with relay := .notEligible }
  | _, none => { e' with relay := .notEligible }
  | mode, some own =>
    if 0 < e.relays then { e' with relay := .suppressed }
    else if mode = .auto || again then ({ e' with relay := .idle }).startHoldOff own s.now
    else { e' with relay := .idle }

/-- A relay state acted on by a coast acknowledgement, a RELAY merged or a DCANCEL (R179): IDLE goes to `idleTo`,
WAITING to SUPPRESSED with its hold-off dropped. -/
def DistressEntry.suppress (e : DistressEntry) (idleTo : RelayState) : DistressEntry :=
  match e.relay with
  | .idle => { e with relay := idleTo }
  | .waiting => { e with relay := .suppressed, holdOff := none, due := false }
  | _ => e

/-- Suppress an origin's relay; a due relay leaves the frame queue (R179). -/
def State.suppressRelay (s : State) (origin : Nat) (idleTo : RelayState) : State :=
  let t := s.onEntry origin fun e => e.suppress idleTo
  match t.distressEntry origin with
  | some e => if e.relay = .waiting then t else t.dequeue (.relay origin)
  | none => t

/-- An entry's relay state set afresh at CONFIG CLOSED (R178). -/
def State.relayAfresh (s : State) (e : DistressEntry) : DistressEntry :=
  if e.relay = .notEligible && e.coastAck.isNone && !e.cancelled then
    s.setRelayState e (s.cfg.relayMode = .bridge && e.bridgeAck)
  else e

/-- The relay states set afresh at CONFIG CLOSED (R178). -/
def State.relaysAfresh (s : State) : State :=
  { s with dis := { s.dis with list := s.dis.list.map s.relayAfresh } }

/-- Acknowledge an entry for the bridge: the watch STOPPED, and in BRIDGE mode the hold-off starts (R177, R178). -/
def State.ackEntry (s : State) (e : DistressEntry) : DistressEntry :=
  if e.bridgeAck then e
  else
    let e' := { e with bridgeAck := true, watch := .stopped }
    match s.cfg.relayMode, s.cfg.ownCall with
    | .bridge, some own => e'.startHoldOff own s.now
    | _, _ => e'

/-! ### Distress frames heard (R166, R170 to R175) -/

/-- A distress frame as the decoder hands it: its fields as decided, and its quality (R14, R15). -/
structure DistressFrame where
  type : FrameType
  fields : List (Option Nat)
  pf : Nat
  sf : Nat
  deriving DecidableEq, Repr

/-- Characters `i` to `i + k − 1` of the fields. -/
def DistressFrame.span (f : DistressFrame) (i k : Nat) : List (Option Nat) :=
  (List.range k).map fun j => (f.fields.getD (i + j) none)

/-- Where the origin call stands in the fields (R14). -/
def DistressFrame.originAt (f : DistressFrame) : Nat :=
  match f.type with
  | .alert => 0
  | .relay => 5
  | .dack => 5
  | .dcancel => 0

/-- The origin call, when readable. -/
def DistressFrame.origin (f : DistressFrame) : Option Nat := readNumber (f.span f.originAt 5)

/-- The serial, when readable: two digits (R14). That "00", outside the 01–99 of R14 and R169, is taken as any other
serial, with the value 0: DESIGN CHOICE, log entry 84. -/
def DistressFrame.serial (f : DistressFrame) : Option Nat := readNumber (f.span (f.originAt + 5) 2)

/-- The relayer call or the coast call, when readable: the first field of a RELAY or DACK. -/
def DistressFrame.other (f : DistressFrame) : Option Nat := readNumber (f.span 0 5)

/-- A frame is usable when its origin call and serial are readable (R14). -/
def DistressFrame.usable (f : DistressFrame) : Bool := f.origin.isSome && f.serial.isSome

/-- The nature as a text code, when readable. -/
def DistressFrame.nature (f : DistressFrame) : Option Nat := letterAt (f.fields.getD (f.originAt + 7) none)

/-- A latitude or longitude field is readable: digits, then one of two letters, or "?" in any position (R14). -/
def angleReadable (a b : Nat) (chars : List (Option Nat)) : Bool :=
  (chars.dropLast.all fun c => (digitAt c).isSome || c = some cQuery)
    && (match chars.getLast? with
      | some c => c = some (cText a) || c = some (cText b) || c = some cQuery
      | none => false)

/-- A field of "?" throughout is unknown (R14, R163). -/
def allQuery (chars : List (Option Nat)) : Bool := chars.all fun c => c = some cQuery

/-- The position's eleven characters, when latitude and longitude were both readable and neither is unknown (R170). -/
def DistressFrame.position (f : DistressFrame) : Option (List Nat) :=
  let lat := f.span (f.originAt + 8) 5
  let lon := f.span (f.originAt + 13) 6
  if angleReadable 78 83 lat && angleReadable 69 87 lon && !allQuery lat && !allQuery lon then
    some ((lat ++ lon).map fun c => c.getD cQuery)
  else none

/-- The alert time, when readable with hours 00–23 and minutes 00–59 (R170). A RELAY of 27 field characters holds only
three of its digits, so it is never readable there: DESIGN CHOICE, log entry 51. -/
def DistressFrame.time (f : DistressFrame) : Option Nat :=
  match readNumber (f.span (f.originAt + 19) 4) with
  | some t => if t / 100 < 24 ∧ t % 100 < 60 then some t else none
  | none => none

/-- The station a distress frame is attributed to (R54). -/
def DistressFrame.sender (f : DistressFrame) : Option Nat :=
  if f.usable then
    match f.type with
    | .alert | .dcancel => f.origin
    | .relay | .dack => f.other
  else none

/-- A coast call (R174). A field that is readable but below 10000 is neither a coast call nor a vessel's; a DACK with it is
no acknowledgement, as one from a vessel is none: DESIGN CHOICE, log entry 79. -/
def coastCall : Option Nat → Bool
  | some c => 90000 ≤ c && c ≤ 99999
  | none => false

/-- OWN ALERT EVENT: the kind, the call of the station heard, the serial in the frame, the own alert serial or none,
the own distress state after the event, P_f, and the mark "other serial" (R166). -/
def State.ownAlertEvent (s : State) (kind : OwnEvent) (call : Option Nat) (serial pf : Nat) (other : Bool) : State :=
  s.notice 44 [.num 1 kind.ctorIdx, callOr call, .num 1 serial, s.serialField, .num 1 s.dis.own.ctorIdx, .num 1 pf,
    flag other]

/-- A frame concerning the own alert (R166). A DACK whose coast call is readable and below 10000 acknowledges nothing
(DESIGN CHOICE, log entry 79). -/
def State.ownAlertFrame (s : State) (f : DistressFrame) (serial : Nat) : State :=
  let other : Bool := s.dis.own = .none || s.dis.serial ≠ some serial
  match f.type with
  | .alert => s
  | .relay => s.ownAlertEvent .relayed f.other serial f.pf other
  | .dcancel => s.ownAlertEvent .cancelHeard f.origin serial f.pf false
  | .dack =>
    if coastCall f.other then
      let t :=
        if other then s
        else match s.dis.own with
          | .alerting => { s with dis := { s.dis with own := .acknowledged, burstAt := none } }
          | .cancelPending =>
            if s.dis.prevAck then s else { s with dis := { s.dis with prevAck := true, burstAt := none } }
          | _ => s
      t.ownAlertEvent .coastAcknowledged f.other serial f.pf other
    else s.ownAlertEvent .dackFromVessel f.other serial f.pf other

/-- An entry as created or reset from a frame, its relay state not yet set (R171, R173). -/
def State.entryOf (s : State) (f : DistressFrame) (origin serial : Nat) : DistressEntry :=
  { origin := origin, serial := serial, nature := f.nature, position := f.position, time := f.time,
    firstHeard := s.now, firstTod := s.tod, lastHeard := s.now, best := f.pf, coastAck := none, bridgeAck := false,
    cancelled := false, relays := if f.type = .relay then 1 else 0,
    relayers := if f.type = .relay then f.other.toList else [], relay := .notEligible, holdOff := none, due := false,
    watch := .running, watchEnd := s.now + 1000 * s.cfg.watchInterval }

/-- Put an entry at the end of the list, which stands in the order of first heard, and do what R171 and R173 ask at
a creation or reset: pin and mark, watch and relay state, ALARM notice, ALARM output. -/
def State.putEntry (s : State) (f : DistressFrame) (origin serial : Nat) (cause : AlarmCause) : State :=
  let e := s.setRelayState (s.entryOf f origin serial) false
  let t := s.markDistress origin
  let u := { t with dis := { t.dis with list := (t.dis.list.filter fun (x : DistressEntry) => x.origin ≠ origin) ++ [e] } }
  (u.alarmNotice cause origin serial []).refreshAlarm

/-- An entry leaves the list: its pin reason and mark are withdrawn, and its due relay leaves the queue
(R175, R176). -/
def State.dropEntry (s : State) (origin : Nat) : State :=
  let t : State := (s.unmarkDistress origin).dequeue (.relay origin)
  { t with dis := { t.dis with list := t.dis.list.filter fun (x : DistressEntry) => x.origin ≠ origin } }

/-- R172: what a merge fills in and raises. -/
def DistressEntry.merge (e : DistressEntry) (f : DistressFrame) (now : Nat) : DistressEntry :=
  let relayers := match f.type, f.other with
    | .relay, some r => if e.relayers.length < 3 && !e.relayers.contains r then e.relayers ++ [r] else e.relayers
    | _, _ => e.relayers
  { e with
    nature := (match e.nature with
      | some n => some n
      | none => f.nature)
    time := (match e.time with
      | some t => some t
      | none => f.time)
    position := (match f.position with
      | some p => some p
      | none => e.position)
    lastHeard := now, best := max e.best f.pf,
    relays := if f.type = .relay then holdAt 255 e.relays else e.relays, relayers := relayers }

/-- The fields of a frame that is not tracked, with its P_f, in the order of R14: a RELAY's relayer call, then nature,
position and alert time (R175, R185). Their places in the notice are log entry 22. -/
def DistressFrame.untrackedItems (f : DistressFrame) : List Field :=
  (if f.type = .relay then [callOr f.other] else [])
    ++ [letterField f.nature, positionField f.position, timeField f.time, .num 1 f.pf]

/-- A usable ALERT or RELAY of another origin (R171 to R173, R175). -/
def State.alertHeard (s : State) (f : DistressFrame) (origin serial : Nat) : State :=
  match s.distressEntry origin with
  | some e =>
    if e.serial = serial then
      let t := s.onEntry origin fun e => e.merge f s.now
      if f.type = .relay then t.suppressRelay origin .suppressed else t
    else (s.dequeue (.relay origin)).putEntry f origin serial .newSerial
  | none =>
    if s.dis.list.length < 8 then s.putEntry f origin serial .new
    else match s.dis.list.find? fun e => e.bridgeAck with
      | some old =>
        let t := s.dropEntry old.origin
        ({ t with dis := { t.dis with replaced := bump t.dis.replaced } }).putEntry f origin serial .new
      | none =>
        State.alarmNotice { s with dis := { s.dis with notTracked := bump s.dis.notTracked } } .notTracked origin
          serial f.untrackedItems

/-- A usable DACK or DCANCEL naming a listed entry's serial (R174). A DACK whose coast call is readable and below 10000
acknowledges nothing (DESIGN CHOICE, log entry 79). -/
def State.ackHeard (s : State) (f : DistressFrame) (origin serial : Nat) : State :=
  match s.distressEntry origin with
  | some e =>
    if e.serial = serial then
      let t := s.onEntry origin fun e => { e with lastHeard := s.now }
      if f.type = .dcancel then
        (t.onEntry origin fun e => { e with cancelled := true }).suppressRelay origin .notEligible
      else if coastCall f.other && e.coastAck.isNone then
        (t.onEntry origin fun e => { e with coastAck := f.other }).suppressRelay origin .notEligible
      else t
    else s
  | none => s

/-- Count an unusable frame (R170). -/
def State.unusableFrame (s : State) : State := { s with dis := { s.dis with unusable := bump s.dis.unusable } }

/-- The distress unit takes a distress frame handed by the decoder (R170). -/
def State.distressFrame (s : State) (f : DistressFrame) : State :=
  let t := s.silenceEvent
  match f.origin, f.serial with
  | some origin, some serial =>
    if t.cfg.ownCall = some origin then t.ownAlertFrame f serial
    else match f.type with
      | .alert | .relay => if origin < 10000 then t.unusableFrame else t.alertHeard f origin serial
      | .dack | .dcancel => t.ackHeard f origin serial
  | _, _ => t.unusableFrame

end Sys2Proof.Machine
end

