-- ==== Sys2Proof/Machine/Frames.lean ====
section
/-! DEFINITION. The receive decoder's spread mode (R6 to R15): sync and its loss, the pairs of a stream, the marker
search, decisions, and the frames handed to the net monitor and to their owners. -/

namespace Sys2Proof.Machine

/-- Change the decoder. -/
def State.onDec (s : State) (f : Decoder → Decoder) : State := { s with dec := f s.dec }

/-- Change the stream being read. -/
def State.onStream (s : State) (f : Stream → Stream) : State := s.onDec fun d => { d with stream := f d.stream }

/-- Set the frame in progress. -/
def State.setFrame (s : State) (f : FrameState) : State := s.onStream fun x => { x with frame := f }

/-! ### Frames handed (R13 to R15, R54, R55) -/

/-- The net monitor takes a frame: attributed, its sender is recorded, fed and heard; otherwise it is counted
(R54, R55). -/
def State.attribute (s : State) (sender : Option Nat) (sf : Nat) : State :=
  match sender with
  | some call =>
    match s.recordCall call with
    | (true, t) => (t.feedStation call sf).hear call
    | (false, t) => { t with nm := { t.nm with unattributed := bump t.nm.unattributed } }
  | none => { s with nm := { s.nm with unattributed := bump s.nm.unattributed } }

/-- Hand a distress frame, its undecided fields unreadable, to the net monitor and to the distress unit (R14). -/
def State.handDistress (s : State) (type : FrameType) (n sum : Nat) (fields : List (Option Nat)) : State :=
  let f : DistressFrame := { type := type, fields := fields, pf := framePercent n sum, sf := frameSample n sum }
  (s.attribute f.sender f.sf).distressFrame f

/-- Hand a bulletin frame that has ended, or was cut short, to the net monitor. -/
def State.attributeBul (s : State) (n sum : Nat) (header : List (Option Nat)) : State :=
  s.attribute (s.bulSender header) (frameSample n sum)

/-- Hand a frame in progress to its owner as cut short (R10, R11, R13, R14). -/
def State.cutFrame (s : State) (cause : CutCause) : State :=
  match s.dec.stream.frame with
  | .between => s
  | .bulletin n sum header => ((s.attributeBul n sum header).bulCut cause n sum).setFrame .between
  | .distress type n sum fields => (s.handDistress type n sum fields).setFrame .between

/-- Loss of sync: the frame in progress is handed cut short, the loss is counted, and HUNTING is entered with an empty
intake window (R10). -/
def State.loseSync (s : State) (cause : CutCause) : State :=
  let t := (s.cutFrame cause).onDec fun d =>
    { d with sync := .hunting, window := [], stream := .empty, losses := bump d.losses }
  t.judgeBusy

/-- The end of a stream (R11). -/
def State.endStream (s : State) : State :=
  let t := (s.cutFrame .streamEnd).onDec fun d => { d with sync := .hunting, stream := .empty }
  t.judgeBusy

/-- Sync gained: SPREAD-SYNC with everything of the stream emptied and the accumulator at 2048; LINKED is left, and an
overheard-link record ends (R6, R58). -/
def State.gainSync (s : State) : State :=
  let t := s.onDec fun d =>
    { d with sync := .spreadSync, stream := .empty, align := none, acc := some startQ, synced := bump d.synced,
             slotBlocked := d.slotBlocked || s.link.phase.running }
  State.judgeBusy { t with nm := { t.nm with overheard := none } }

/-! ### Decided characters (R8, R12, R13, R14) -/

/-- An unexpected character between frames, counted once per run (R12). -/
def State.unexpected (s : State) : State :=
  if s.dec.stream.unknownRun then s
  else (s.onStream fun x => { x with unknownRun := true }).onDec fun d => { d with unknown := bump d.unknown }

/-- An expected character between frames ends a run of unexpected ones. -/
def State.expected (s : State) : State := s.onStream fun x => { x with unknownRun := false }

/-- A character decided between frames (R12). -/
def State.betweenFrames (s : State) (c : Option Nat) (score : Nat) : State :=
  match c with
  | some i =>
    match frameTypeOf i with
    | some type => s.expected.setFrame (.distress type 1 score [])
    | none =>
      if i = cBegin then s.expected.setFrame (.bulletin 1 score [])
      else if i = cIdle || i = cEnd then s.expected
      else s.unexpected
  | none => s.unexpected

/-- A character decided in a bulletin: header positions 1 to 7, then the body (R13). -/
def State.inBulletin (s : State) (n sum : Nat) (header : List (Option Nat)) (c : Option Nat) (score : Nat) : State :=
  if header.length < 7 then
    let t := s.setFrame (.bulletin (n + 1) (sum + score) (header ++ [c]))
    if header.length = 6 then t.bulHeader (header ++ [c]) else t
  else if c = some cEnd then ((s.attributeBul n sum header).bulEnd n sum).setFrame .between
  else if c = some cBegin then ((s.attributeBul n sum header).bulBegin n sum).setFrame (.bulletin 1 score [])
  else (s.setFrame (.bulletin (n + 1) (sum + score) header)).bulBody (storeCode c)

/-- A field position: a character of index 0–94, or unreadable (R14). -/
def fieldChar : Option Nat → Option Nat
  | some i => if i < 95 then some i else none
  | none => none

/-- A character decided in a distress frame, which is handed when its last field character is decided (R14). -/
def State.inDistress (s : State) (type : FrameType) (n sum : Nat) (fields : List (Option Nat)) (c : Option Nat)
    (score : Nat) : State :=
  let all := fields ++ [fieldChar c]
  if all.length < type.fields then s.setFrame (.distress type (n + 1) (sum + score) all)
  else (s.handDistress type (n + 1) (sum + score) all).setFrame .between

/-- A decided character handled by the frame state (R12 to R14). -/
def State.handleChar (s : State) (c : Option Nat) (score : Nat) : State :=
  match s.dec.stream.frame with
  | .between => s.betweenFrames c score
  | .bulletin n sum header => s.inBulletin n sum header c score
  | .distress type n sum fields => s.inDistress type n sum fields c score

/-- A decision: it feeds the accumulator and the runs. The 32nd ERASURE of a run loses sync there and then, so the
frame in progress is cut without it and no frame state is left to handle it; any other character is then handled, and
the fourth IDLE in a row ends the stream (R8, R10, R11; log 13). -/
def State.decided (s : State) (r : Option Nat × Nat) : State :=
  let t := s.onDec fun d => { d with acc := d.acc.map fun q => feedQ q r.2 }
  let u := t.onStream fun x => { x with
    erasureRun := if r.1.isNone then x.erasureRun + 1 else 0
    idleRun := if r.1 = some cIdle then x.idleRun + 1 else 0 }
  if 32 ≤ u.dec.stream.erasureRun then u.loseSync .erasures
  else
    let v := u.handleChar r.1 r.2
    if 4 ≤ v.dec.stream.idleRun then v.endStream else v

/-! ### Pairs and markers (R5, R7 to R9) -/

/-- The S slot of a character pair completes the character four pairs before, decided from its F copy and this S
copy, or from its F copy alone when the slot was withdrawn (R8, R9). -/
def State.completePair (s : State) (j : Nat) (f : Copy) (sCopy : Option Copy) : State :=
  if j < 4 then s.onStream fun x => { x with delay := x.delay ++ [f] }
  else match s.dec.stream.delay with
    | first :: rest => (s.onStream fun x => { x with delay := rest ++ [f] }).decided (decideChar first sCopy)
    | [] => s

/-- Both slots of a pair have been read: phasing, a character pair, or a character pair before an expected marker,
whose decision waits for the search (R7 to R9). -/
def State.pairRead (s : State) (f sc : Copy) : State :=
  let x := s.dec.stream
  match x.phasing with
  | some k =>
    if f.index = some cPhaseA || sc.index = some cPhaseB then
      if 12 ≤ k + 1 then s.loseSync .phasing
      else s.onStream fun x => { x with phasing := some (k + 1), f := none }
    else s.onStream fun x => { x with phasing := none, pair := 1, f := none, delay := [f] }
  | none =>
    if (x.pair + 1) % 64 = 0 then
      s.onStream fun x => { x with pair := x.pair + 1, f := none, marker := some { f := f, s := sc, slots := [] } }
    else (s.onStream fun x => { x with pair := x.pair + 1, f := none }).completePair x.pair f sc

/-- A copy is exactly PHASE-A. -/
def Copy.isA (c : Copy) : Bool := c.index = some cPhaseA
/-- A copy is exactly PHASE-B. -/
def Copy.isB (c : Copy) : Bool := c.index = some cPhaseB

/-- The search has ended: the marker stands found, with or without a slip, or missed. -/
def State.markerFound (s : State) (slip : Bool) : State :=
  (s.onStream fun x => { x with marker := none, missedRun := 0 }).onDec fun d =>
    if slip then { d with slips := bump d.slips } else d

/-- The next F slot is already read. -/
def State.withF (s : State) (c : Copy) : State :=
  if s.dec.sync = .spreadSync then s.onStream fun x => { x with f := some c } else s

/-- The marker search over slots m, m + 1 and m + 2, with m − 1 the S slot of the last pair (R9). -/
def State.searchMarker (s : State) (m : MarkerSearch) (a b c : Copy) : State :=
  let j := s.dec.stream.pair - 1
  if a.isA && b.isB then ((s.markerFound false).completePair j m.f (some m.s)).withF c
  else if m.s.isA && a.isB then
    let t := (s.markerFound true).completePair j m.f none
    if t.dec.sync = .spreadSync then t.pairRead b c else t
  else if b.isA && c.isB then (s.markerFound true).completePair j m.f (some m.s)
  else
    let t := (s.onStream fun x => { x with marker := none, missedRun := x.missedRun + 1 }).onDec fun d =>
      { d with missed := bump d.missed }
    let u := t.completePair j m.f (some m.s)
    if u.dec.sync = .spreadSync then
      if 2 ≤ u.dec.stream.missedRun then u.loseSync .markers else u.withF c
    else u

/-- A slot of the stream has been read. -/
def State.slotRead (s : State) (c : Copy) : State :=
  match s.dec.stream.marker with
  | some m =>
    match m.slots with
    | [a, b] => s.searchMarker m a b c
    | _ => s.onStream fun x => { x with marker := some { m with slots := m.slots ++ [c] } }
  | none =>
    match s.dec.stream.f with
    | some f => s.pairRead f c
    | none => s.onStream fun x => { x with f := some c }

/-- A symbol of the stream: every ninth completes a slot. -/
def State.streamSymbol (s : State) (y : Sym) : State :=
  let part := s.dec.stream.part ++ [y]
  if part.length < 9 then s.onStream fun x => { x with part := part }
  else (s.onStream fun x => { x with part := [] }).slotRead (readCopy part)

end Sys2Proof.Machine
end

