-- ==== Sys2Proof/Machine/Queues.lean ====
section
/-! DEFINITION. The message queues (chapter 6): outgoing records from entry to delivery or removal, incoming records
from MSG-BEGIN to readout, the end report of a session and what it charges or delays. -/

namespace Sys2Proof.Machine

/-! ### Outgoing records (R93 to R99) -/

/-- The outgoing record of a reference. -/
def State.outRec (s : State) (ref : Nat) : Option OutRec := s.q.out.find? fun r => r.ref = ref

/-- Change the outgoing record of a reference. -/
def State.onOut (s : State) (ref : Nat) (f : OutRec → OutRec) : State :=
  { s with q := { s.q with out := s.q.out.map fun r => if r.ref = ref then f r else r } }

/-- Queue order: class descending, then creation order ascending (R94). R153 would have a report, class 1, stand before an
urgent message, class 2; the order is R94's: DESIGN CHOICE, log entry 77. -/
def OutRec.before (a b : OutRec) : Bool := b.cls < a.cls || (a.cls = b.cls && a.order < b.order)

/-- A value can be the next outgoing reference: no record has it or its on-air number (R93). -/
def Queues.outRefFree (q : Queues) (n : Nat) : Bool := q.out.all fun r => r.ref ≠ n && r.ref % 100 ≠ n % 100

/-- The next outgoing reference (R93). -/
def Queues.nextOutRef (q : Queues) : Nat := nextFree 255 q.outRefFree 255 q.outRef

/-- The next incoming reference (R104). -/
def Queues.nextIncRef (q : Queues) : Nat := nextFree 255 (fun n => q.inc.all fun r => r.ref ≠ n) 255 q.incRef

/-- A new outgoing record (R95, R97). -/
def State.newOut (s : State) (dest cls length : Nat) (serial : Option Nat) (st : OutState) : OutRec :=
  { ref := s.q.nextOutRef, dest := dest, cls := cls, length := length, offset := 0, attempts := 0,
    nextEligible := s.now, state := st, order := s.q.outOrder, created := s.tod, serial := serial, lastEnd := none,
    told := true }

/-- Create an outgoing record with all its pages, or answer quota full with no record made (R95, R97). -/
def State.createOut (s : State) (dest cls length : Nat) (serial : Option Nat) (st : OutState) :
    Option Nat × State :=
  let r := s.newOut dest cls length serial st
  match s.store.take (.out r.ref) .outgoing (cls = 3) (pagesFor length) with
  | (.granted, store) =>
    (some r.ref, { s with
      store := store,
      q := { s.q with out := insertBy OutRec.before r s.q.out, outRef := r.ref, outOrder := s.q.outOrder + 1 } })
  | (.quotaFull .., store) => (none, { s with store := store })

/-- Remove an outgoing record and free its chain. -/
def State.removeOut (s : State) (ref : Nat) : State :=
  { s with store := s.store.free (.out ref), q := { s.q with out := s.q.out.filter fun r => r.ref ≠ ref } }

/-- A record becomes QUEUED and is reported eligible, which IDLE considers (R96 to R98). -/
def State.queueRecord (s : State) (ref : Nat) : State :=
  (s.onOut ref fun r => { r with state := .queued, told := true }).consider

/-- What the tests of a report record answer: the condition that failed, if one did (R97). -/
def State.reportRefusal (s : State) (serial length : Nat) : Option CloseCause :=
  if 16 ≤ s.q.out.length then some .queue
  else if 4 ≤ (s.q.out.filter fun r => r.cls = 1).length then some .reports
  else if s.q.out.any fun r => r.cls = 1 && r.serial = some serial then some .serial
  else if s.store.grants .outgoing false (pagesFor length) then none
  else some .pages

/-- The failure delay of a class (R100, R101). -/
def delayOf (cls : Nat) : Nat := if cls = 3 then Config.distressDelayMs else Config.delayMs

/-- Give a record a next-eligible time, yet to be reported. -/
def OutRec.delay (r : OutRec) (t : Nat) : OutRec := { r with nextEligible := t, told := false }

/-- The items of MESSAGE DELIVERED and MESSAGE FAILED in common (R100, R102). -/
def OutRec.items (r : OutRec) : List Field :=
  [.num 1 r.ref, .num 3 r.dest, .num 1 r.cls, .num 2 r.length, .num 1 r.attempts]

/-- A last end code, or none. -/
def endField : Option EndCode → Field
  | some c => .num 1 c.ctorIdx
  | none => .absent 1

/-- Charge one record with a failure (R100). -/
def State.chargeFailure (s : State) (ref : Nat) : State :=
  match s.outRec ref with
  | some r =>
    let n := holdAt 255 r.attempts
    if r.cls = 3 then s.onOut ref fun r => { r.delay (s.now + delayOf r.cls) with attempts := n }
    else if n < 5 then s.onOut ref fun r => { r.delay (s.now + delayOf r.cls) with attempts := n }
    else if r.cls = 1 then
      s.onOut ref fun r => { r.delay (s.now + Config.reportDelayMs) with attempts := 0 }
    else
      (s.notice 12 (({ r with attempts := n }).items ++ [endField r.lastEnd])).removeOut ref
  | none => s

/-- The records addressed to a peer that are eligible in the queue's terms. -/
def State.eligibleFor (s : State) (peer : Nat) : List OutRec :=
  s.q.out.filter fun r => r.dest = peer && r.eligible s.now

/-- An ACTIVE record returns to QUEUED; one whose next-eligible time has been reached is reported at once, to a link
controller that is not yet in IDLE (R90, R98, R99). -/
def OutRec.endActive (r : OutRec) (now : Nat) : OutRec :=
  if r.state = .active then { r with state := .queued, told := r.told || r.nextEligible ≤ now } else r

/-! ### Incoming records (R104 to R108) -/

/-- The incoming record of a reference. -/
def State.incRec (s : State) (ref : Nat) : Option IncRec := s.q.inc.find? fun r => r.ref = ref

/-- Change the incoming record of a reference. -/
def State.onInc (s : State) (ref : Nat) (f : IncRec → IncRec) : State :=
  { s with q := { s.q with inc := s.q.inc.map fun r => if r.ref = ref then f r else r } }

/-- Last change now. -/
def State.touch (s : State) (r : IncRec) : IncRec := { r with lastChange := s.now, changeTod := s.tod }

/-- The session's open record: the one in RECEIVING. -/
def State.openInc (s : State) : Option IncRec := s.q.inc.find? fun r => r.state = .receiving

/-- Characters stored in an incoming record. -/
def State.incLength (s : State) (r : IncRec) : Nat := (s.store.textOf (.inc r.ref)).length

/-- Remove an incoming record and free its chain. -/
def State.removeInc (s : State) (ref : Nat) : State :=
  { s with store := s.store.free (.inc ref), q := { s.q with inc := s.q.inc.filter fun r => r.ref ≠ ref } }

/-- Discard a PARTIAL record: PARTIAL DISCARDED with its cause, 0 "replaced", 1 "expired" (R107); its on-air number as a
one-byte number: DESIGN CHOICE, log entry 83. -/
def State.discardPartial (s : State) (r : IncRec) (cause : Nat) : State :=
  (s.notice 14 [.num 1 r.ref, .num 3 r.origin, numOr 1 r.number, .num 1 r.cls, .num 2 (s.incLength r),
    .num 2 r.blocks, .num 1 cause]).removeInc r.ref

/-- A record in RECEIVING becomes PARTIAL: at the session's end, and before another record is opened (R107). -/
def State.partAll (s : State) : State :=
  { s with q := { s.q with inc := s.q.inc.map fun r =>
      if r.state = .receiving then { s.touch r with state := .partly } else r } }

/-- A PARTIAL record of an origin and on-air number. -/
def IncRec.partialOf (r : IncRec) (origin number : Nat) : Bool :=
  r.state = .partly && r.origin = origin && r.number = some number

/-- Step 1 of R105: any PARTIAL record of the origin and on-air number is discarded. -/
def State.replacePartial (s : State) (origin : Nat) (number : Option Nat) : State :=
  match number with
  | some n => (s.q.inc.filter fun r => r.partialOf origin n).foldl (fun t r => t.discardPartial r 0) s
  | none => s

/-- Steps 2 and 3 of R105: whether a record was opened, and the state after. -/
def State.newIncoming (s : State) (origin : Nat) (number : Option Nat) (cls : Nat) : Bool × State :=
  if 16 ≤ s.q.inc.length then (false, s)
  else
    let ref := s.q.nextIncRef
    let r : IncRec :=
      { ref := ref, origin := origin, number := number, cls := cls, blocks := 0, truncated := false,
        state := .receiving, before := none, lastChange := s.now, changeTod := s.tod, completed := 0 }
    (true, { s with q := { s.q with inc := s.q.inc ++ [r], incRef := ref } })

/-- A MSG-BEGIN delivered: an open record first becomes PARTIAL, then the steps of R105 (R80, R105). -/
def State.openIncoming (s : State) (origin : Nat) (number : Option Nat) (cls : Nat) : Bool × State :=
  ((s.partAll).replacePartial origin number).newIncoming origin number cls

/-- A DATA block for the open record: delivered or not, and the state after (R106). Up to 4000 characters are
stored; a page is taken first when they need one, and quota full stores nothing. -/
def State.incData (s : State) (r : IncRec) (codes : List Nat) : Bool × State :=
  let have_ := s.incLength r
  let kept := codes.take (4000 - have_)
  let key := RecKey.inc r.ref
  let write (t : State) : State :=
    (t.onStore fun st => st.write key kept).onInc r.ref fun x =>
      { t.touch x with blocks := holdAt 999 x.blocks, truncated := x.truncated || kept.length < codes.length }
  if 256 * s.store.pagesOf key < have_ + kept.length then
    match s.store.take key .incoming (r.cls = 3) 1 with
    | (.granted, store) => (true, write { s with store := store })
    | (.quotaFull .., store) => (false, { s with store := store })
  else (true, write s)

/-- A MSG-END for the open record: COMPLETE, with an INCOMING MESSAGE notice (R106); its on-air number as a one-byte
number: DESIGN CHOICE, log entry 83. -/
def State.incEnd (s : State) (r : IncRec) : State :=
  let t := s.onInc r.ref fun x => { s.touch x with state := .complete, completed := s.q.completions }
  ({ t with q := { t.q with completions := t.q.completions + 1 } }).notice 13
    [.num 1 r.ref, .num 3 r.origin, numOr 1 r.number, .num 1 r.cls, .num 2 (s.incLength r), flag r.truncated]

/-- The PARTIAL record a RESUME matches (R81). -/
def State.resumeMatch (s : State) (origin number offset : Nat) : Option IncRec :=
  s.q.inc.find? fun r =>
    r.state = .partly && r.origin = origin && r.number = some number && r.blocks = offset

/-- A matching RESUME delivered: another open record becomes PARTIAL, and the match is the open record (R81, R107). -/
def State.reopen (s : State) (r : IncRec) : State :=
  let t := s.partAll
  t.onInc r.ref fun x => { t.touch x with state := .receiving }

/-- 6 h have passed since a PARTIAL record's last change (R107). -/
def IncRec.expired (r : IncRec) (now : Nat) : Bool := r.state = .partly && r.lastChange + Config.partialMs ≤ now

/-- END OF TEXT was sent: the record leaves the list (R108). -/
def State.incReadDone (s : State) (ref : Nat) : State := s.removeInc ref

/-- Another record of the same origin and on-air number that stands for the unfinished message: PARTIAL, or RECEIVING,
which the session's end would make PARTIAL beside this one (R107). -/
def State.rivalOf (s : State) (r : IncRec) : Bool :=
  r.number.isSome && s.q.inc.any fun x =>
    x.origin = r.origin && x.number = r.number && (x.state = .partly || x.state = .receiving)

/-- The readout ended without END OF TEXT: the record returns to its state before reading, and a PARTIAL one is
discarded when its 6 h have passed, or when another record stands for its origin and number (R108). That a record
still RECEIVING counts as the other one, so that only one PARTIAL record can stand (R107), is DEDUCED, log entry 52. -/
def State.incReadUnfinished (s : State) (ref : Nat) : State :=
  match s.incRec ref with
  | some r =>
    let r' := { r with state := r.before.getD .complete, before := none }
    let t := s.onInc ref fun _ => r'
    if r'.state = .partly then
      if r'.expired s.now then t.discardPartial r' 1
      else if s.rivalOf r then t.discardPartial r' 0
      else t
    else t
  | none => s

/-! ### The end report (R90, R99 to R101) -/

/-- Records addressed to the peer, QUEUED or ACTIVE, take the last end code; the ACTIVE one returns to QUEUED. -/
def OutRec.atEnd (r : OutRec) (peer : Nat) (code : EndCode) (now : Nat) : OutRec :=
  (if r.dest = peer && r.state ≠ .intake then { r with lastEnd := some code } else r).endActive now

/-- The failure of an attempt is charged to each eligible record for its destination (R100): in queue order, which is also
the order of their MESSAGE FAILED notices. DESIGN CHOICE, log entry 82. -/
def State.chargeAll (s : State) (peer : Nat) : State :=
  (s.eligibleFor peer).foldl (fun t r => t.chargeFailure r.ref) s

/-- Each eligible record for the peer waits 2 min, or 30 s for class 3 (R101). -/
def State.delayAll (s : State) (peer : Nat) : State :=
  { s with q := { s.q with out := s.q.out.map fun r =>
      if r.dest = peer && r.eligible s.now then r.delay (s.now + delayOf r.cls) else r } }

/-- The link controller reports the end of an attempt or session to the message queues: `failed` as R90 says. -/
def State.endReport (s : State) (peer : Nat) (code : EndCode) (failed : Bool) : State :=
  let t := s.partAll
  let u := { t with q := { t.q with out := t.q.out.map fun r => r.atEnd peer code t.now } }
  if failed then u.chargeAll peer
  else match code with
    | .brokenPeer | .peerFull | .linkLost => u.delayAll peer
    | _ => u

end Sys2Proof.Machine
end

