-- ==== Sys2Proof/Machine/Catch.lean ====
section
/-! DEFINITION. The catch tally (chapter 8): hauls and the tally table, the hour close and CLOSE REPORT, the report
text, the report watch list; and the delivery of an outgoing record, which a report's delivery ends in (R102, R154). -/

namespace Sys2Proof.Machine

/-! ### Hauls and rows (R139 to R143) -/

/-- Text compared character by character in text-code order. -/
def textLt : List Nat → List Nat → Bool
  | [], [] => false
  | [], _ :: _ => true
  | _ :: _, [] => false
  | x :: xs, y :: ys => x < y || (x = y && textLt xs ys)

/-- List order of hauls: number, then species (R139). -/
def Haul.before (a b : Haul) : Bool := a.number < b.number || (a.number = b.number && textLt a.species b.species)

/-- Table order of rows: species, then area (R142). -/
def TallyRow.before (a b : TallyRow) : Bool :=
  textLt a.species b.species || (a.species = b.species && textLt a.area b.area)

/-- A haul's row. -/
def TallyRow.isOf (r : TallyRow) (h : Haul) : Bool := r.species = h.species && r.area = h.area

/-- The row's total (R142). -/
def TallyRow.total (r : TallyRow) : Nat := min r.sum 999999

/-- The row's saturated flag (R142). -/
def TallyRow.saturated (r : TallyRow) : Bool := 999999 < r.sum

/-- The row of a haul gains its weight and 1, and is created when it does not stand (R143). -/
def addToRows (rows : List TallyRow) (h : Haul) : List TallyRow :=
  if rows.any fun r => r.isOf h then
    rows.map fun r => if r.isOf h then { r with sum := r.sum + h.weight, count := r.count + 1 } else r
  else insertBy TallyRow.before { species := h.species, area := h.area, sum := h.weight, count := 1 } rows

/-- The row of a haul loses its weight and 1, and is removed at a count of 0 (R143). -/
def takeFromRows (rows : List TallyRow) (h : Haul) : List TallyRow :=
  (rows.map fun r => if r.isOf h then { r with sum := r.sum - h.weight, count := r.count - 1 } else r).filter
    fun r => r.count ≠ 0

/-- The haul of a key. -/
def CatchTally.haulOf (t : CatchTally) (number : Nat) (species : List Nat) : Option Haul :=
  t.hauls.find? fun h => h.number = number && h.species = species

/-- What a HAUL ENTRY did, in the order R140 lists them. -/
inductive HaulDone where
  | added | replaced | withdrawn | nothing
  deriving DecidableEq, Repr

/-- The haul list without an entry's key. -/
def CatchTally.without (t : CatchTally) (h : Haul) : List Haul :=
  t.hauls.filter fun x => !(x.number = h.number && x.species = h.species)

/-- A haul entry carried into list and table together, or `none` when a list of 96 or a table of 48 has no place
(R140, R141, R143). The table is judged as it would stand once the old row has given up the entry. -/
def CatchTally.apply (t : CatchTally) (h : Haul) : Option (HaulDone × CatchTally) :=
  match t.haulOf h.number h.species with
  | none =>
    if h.weight = 0 then some (.nothing, t)
    else if 96 ≤ t.hauls.length then none
    else
      let rows := addToRows t.rows h
      if 48 < rows.length then none
      else some (.added, { t with hauls := insertBy Haul.before h t.hauls, rows := rows })
  | some old =>
    if h.weight = 0 then some (.withdrawn, { t with hauls := t.without h, rows := takeFromRows t.rows old })
    else
      let rows := addToRows (takeFromRows t.rows old) h
      if 48 < rows.length then none
      else some (.replaced, { t with hauls := insertBy Haul.before h (t.without h), rows := rows })

/-- The values of a HAUL ENTRY are in range (R140). -/
def haulValid (h : Haul) (serial : Nat) : Bool :=
  1 ≤ h.number && h.number ≤ 9999 && h.species.length = 3 && h.species.all isLetter
    && h.area.length = 4 && (h.area.all fun c => isDigit c || isLetter c)
    && h.weight ≤ 99999 && serial ≤ 999

/-- The row items of a HAUL ENTRY result: total, saturated mark and haul count, or none (R140). The row is that of the
request's species and area, whatever was done: DESIGN CHOICE, log entry 76. -/
def rowItems (rows : List TallyRow) (h : Haul) : List Field :=
  match rows.find? fun r => r.isOf h with
  | some r => [.num 3 r.total, flag r.saturated, .num 1 r.count]
  | none => [.absent 3, .absent 1, .absent 1]

/-! ### The report text (R148, R151) -/

/-- NEW LINE. -/
def newLine : List Nat := [10]

/-- "+" or a space. -/
def plusOr (b : Bool) : List Nat := [if b then 43 else 32]

/-- "CATCH RPT ". -/
def txtHeader : List Nat := [67, 65, 84, 67, 72, 32, 82, 80, 84, 32]
/-- " NR ". -/
def txtNr : List Nat := [32, 78, 82, 32]
/-- "TOTAL ". -/
def txtTotal : List Nat := [84, 79, 84, 65, 76, 32]
/-- "NIL CATCH". -/
def txtNil : List Nat := [78, 73, 76, 32, 67, 65, 84, 67, 72]

/-- "HHMM" of a time of day, or "----". -/
def closeTime : Option Nat → List Nat
  | some tod => digitCodes 2 (tod / 3600) ++ digitCodes 2 (tod % 3600 / 60)
  | none => [45, 45, 45, 45]

/-- A row's line. -/
def TallyRow.line (r : TallyRow) : List Nat :=
  r.species ++ [32] ++ r.area ++ [32] ++ digitCodes 6 r.total ++ plusOr r.saturated ++ [32] ++ digitCodes 3 r.count
    ++ newLine

/-- The total line. -/
def totalLine (rows : List TallyRow) : List Nat :=
  let sum := (rows.map TallyRow.total).sum
  txtTotal ++ digitCodes 7 (min sum 9999999) ++ plusOr (9999999 < sum || rows.any TallyRow.saturated) ++ newLine

/-- The report text (R151). -/
def reportText (own serial : Nat) (tod : Option Nat) (rows : List TallyRow) : List Nat :=
  txtHeader ++ digitCodes 5 own ++ txtNr ++ digitCodes 3 serial ++ [32] ++ closeTime tod ++ newLine
    ++ (if rows.isEmpty then txtNil ++ newLine else (rows.map TallyRow.line).flatten ++ totalLine rows)

/-- The report's length for `k` rows (R148). -/
def reportLength (k : Nat) : Nat := if k = 0 then 38 else 28 + 21 * k + 15

/-! ### Closing (R144 to R150) -/

/-- The serial after one, 999 being followed by 1. -/
def nextPeriod (serial : Nat) : Nat := if 999 ≤ serial then 1 else serial + 1

/-- Ask the message queues for the report record: its reference, or the cause of the refusal (R97, R148). -/
def State.askReport (s : State) (dest : Nat) : Except CloseCause Nat × State :=
  let n := reportLength s.tally.rows.length
  match s.reportRefusal s.tally.serial n with
  | some .queue => (.error .queue, s)
  | some .reports => (.error .reports, s)
  | some .serial => (.error .serial, s)
  | _ =>
    match s.createOut dest 1 n (some s.tally.serial) .intake with
    | (some ref, t) => (.ok ref, t)
    | (none, t) => (.error .pages, t)

/-- The five steps of a close whose record has been granted (R149); `pending` is the close it ends, if one. -/
def State.makeClose (s : State) (own ref : Nat) (source : CloseSource) (pending : Option PendingClose) : State :=
  let c := s.tally
  let text := reportText own c.serial s.tod c.rows
  let t := (s.onStore fun st => st.write (.out ref) text).queueRecord ref
  let w : ReportWatch :=
    { serial := c.serial, ref := ref, closedAt := s.now, closed := s.reading,
      deadline := s.now + 3600000 * s.cfg.deadline, overdue := false }
  let u := { t with tally := { t.tally with
    watch := t.tally.watch ++ [w], hauls := [], rows := [], serial := nextPeriod c.serial, opened := s.reading,
    closes := bump c.closes, pending := none } }
  u.notice 30 ([.num 2 c.serial, .num 1 source.ctorIdx, flag pending.isSome,
      (match pending with
        | some p => ownTime p.since
        | none => .absent 6)]
    ++ readingOr s.reading ++ [.num 1 ref, .num 1 c.rows.length, flag c.rows.isEmpty, .num 2 text.length])

/-- REPORT DEFERRED: the open serial, the source, the cause, the rows and the length the report would have. -/
def State.deferNotice (s : State) (source : CloseSource) (cause : CloseCause) : State :=
  s.notice 31 [.num 2 s.tally.serial, .num 1 source.ctorIdx, .num 1 cause.ctorIdx, .num 1 s.tally.rows.length,
    .num 2 (reportLength s.tally.rows.length)]

/-- The close becomes pending (R150). -/
def State.deferClose (s : State) (source : CloseSource) (cause : CloseCause) : State :=
  let p : PendingClose := { source := source, since := s.now, cause := cause, retryAt := s.now + Config.closeRetryMs }
  State.deferNotice
    { s with tally := { s.tally with pending := some p, deferrals := bump s.tally.deferrals } } source cause

/-- An hour close is asked for (R145, R147, R148). -/
def State.askHourClose (s : State) : State :=
  match s.cfg.ownCall, s.cfg.portOffice with
  | some own, some office =>
    if s.tally.pending.isSome then s
    else match s.askReport office with
      | (.ok ref, t) => t.makeClose own ref .hour none
      | (.error cause, t) => t.deferClose .hour cause
  | _, _ => s.deferNotice .hour .notConfigured

/-- The day count of the latest close instant, while the clock is set. -/
def State.closeDayNow (s : State) : Option Nat := s.reading.map fun r => latestClose s.cfg.closeHour r

/-- Arm the hour close when the clock is set and CONFIG CLOSED has come (R145). -/
def State.armHourClose (s : State) : State :=
  if s.configClosed && s.tally.closeDay.isNone then { s with tally := { s.tally with closeDay := s.closeDayNow } }
  else s

/-- The armed hour close is due: the latest close instant's day count is later than D (R145). -/
def State.hourDue (s : State) : Option Nat :=
  match s.tally.closeDay, s.closeDayNow with
  | some d, some day => if laterDay day d then some day else none
  | _, _ => none

/-- Evaluate the armed hour close (R145). -/
def State.evaluateHour (s : State) : State :=
  match s.hourDue with
  | some day => State.askHourClose { s with tally := { s.tally with closeDay := some day } }
  | none => s

/-- The retry of a pending close (R150). -/
def State.retryClose (s : State) (p : PendingClose) : State :=
  match s.cfg.ownCall, s.cfg.portOffice with
  | some own, some office =>
    match s.askReport office with
    | (.ok ref, t) => t.makeClose own ref p.source (some p)
    | (.error cause, t) =>
      let u := { t with tally := { t.tally with
        pending := some { p with cause := cause, retryAt := t.now + Config.closeRetryMs } } }
      if cause = p.cause then u else u.deferNotice p.source cause
  | _, _ =>
    { s with tally := { s.tally with pending := some { p with retryAt := s.now + Config.closeRetryMs } } }

/-! ### Reports in the queue (R153 to R155), and delivery (R102) -/

/-- The attempt count and last end code of a record, as the queues hold them. -/
def State.attemptItems (s : State) (ref : Nat) : List Field :=
  match s.outRec ref with
  | some r => [.num 1 r.attempts, endField r.lastEnd]
  | none => [.absent 1, .absent 1]

/-- A watch entry reaches its deadline (R155). The notice carries the time of the close as day count and time of day, as
R154 has REPORT DELIVERED carry it; R155 names no form: DESIGN CHOICE, log entry 70. -/
def State.overdue (s : State) (w : ReportWatch) : State :=
  State.notice
    { s with tally := { s.tally with watch := s.tally.watch.map fun x =>
        if x.serial = w.serial then { x with overdue := true } else x } }
    33 ([.num 2 w.serial, .num 1 w.ref] ++ readingOr w.closed ++ [.num 1 s.cfg.deadline] ++ s.attemptItems w.ref)

/-- A report's serial is handed over at its delivery (R154). -/
def State.reportDelivered (s : State) (serial attempts : Nat) : State :=
  match s.tally.watch.find? fun w => w.serial = serial with
  | some w =>
    State.notice
      { s with tally := { s.tally with watch := s.tally.watch.filter fun x => x.serial ≠ serial } }
      32 ([.num 2 w.serial, .num 1 w.ref] ++ readingOr w.closed ++ readingOr s.reading
        ++ [.num 1 attempts, flag w.overdue])
  | none => s

/-- The MSG-END of an outgoing record is accepted: it is removed and its chain freed, and MESSAGE DELIVERED is sent, or
for a report its serial handed to the catch tally (R102). -/
def State.deliver (s : State) (ref : Nat) : State :=
  match s.outRec ref with
  | some r =>
    let t := s.removeOut ref
    match r.cls, r.serial with
    | 1, some serial => t.reportDelivered serial r.attempts
    | _, _ => t.notice 11 (r.items ++ [todOr s.tod])
  | none => s

end Sys2Proof.Machine
end

