-- ==== Sys2Proof/Machine/LinkSession.lean ====
section
/-! DEFINITION. The link controller in a session (chapter 5): calling and answering, the blocks and replies it places,
what it does with what it reads, role swaps, breaks, and the end of a session. -/

namespace Sys2Proof.Machine

/-! ### The session's cycle -/

/-- Change the session. -/
def State.onSession (s : State) (f : Session → Session) : State :=
  { s with link := { s.link with session := s.link.session.map f } }

/-- Set the phase. -/
def State.setPhase (s : State) (p : Phase) : State := { s with link := { s.link with phase := p } }

/-- Change the counts. -/
def State.onCounts (s : State) (f : LinkCounts → LinkCounts) : State :=
  { s with link := { s.link with counts := f s.link.counts } }

/-- The failed-cycle count is cleared. -/
def State.clearFailed (s : State) : State := s.onCounts fun c => { c with failed := 0 }

/-- A cycle with no valid block of the session, or no valid reply: a failed cycle (R77, R82, R84). -/
def State.failCycle (s : State) : State := s.onCounts fun c => { c with failed := min 32 (c.failed + 1) }

/-- A new session (R66, R73, R74). -/
def newSession (peer cls : Nat) (caller : Bool) (announced : Option Nat) (ownCount start boundary : Nat) : Session :=
  { peer := peer, cls := cls, caller := caller, announced := announced, ownCount := ownCount, start := start,
    boundary := boundary, turnTaking := false, next := none, nextSeq := 0, block := none, due := none, expected := 0,
    held := none, callCycle := 0, empties := 0, accepted := false, firstRole := none, breaking := none,
    peerFull := false, fullClose := false, closed := false, sampled := false, valid := false, blockSent := false,
    overRead := false, longRead := false, shortRead := false }

/-- The reply R-ACCEPT, R-REQUEST or R-HOLD of a sequence. -/
def replyOf (kind : ReplyType) (seq : Nat) : Reply := { kind := kind, value := cDigit seq }

/-- R-READY "0". -/
def rReady : Reply := replyOf .ready 0

/-- The long slot's valid block, if one was read (R18). -/
def State.readLong (s : State) (x : Session) : Option Block :=
  if s.dec.slotBlocked then none
  else readBlock (s.dec.slotSyms.filter fun y => x.boundary ≤ y.time && y.time < x.boundary + Config.longSlotMs)

/-- The short slot's valid reply, if one was read (R18). -/
def State.readShort (s : State) (x : Session) : Option Reply :=
  if s.dec.slotBlocked then none
  else readReply (s.dec.slotSyms.filter fun y =>
    x.boundary + Config.shortStartMs ≤ y.time && y.time < x.boundary + Config.shortEndMs)

/-! ### The end of a session (R90, R91) -/

/-- First role as its place in R91's list: sender, receiver, none. -/
def roleField : Option Role → Field
  | some r => .num 1 r.ctorIdx
  | none => .num 1 2

/-- The break reason's letter, or none. -/
def reasonField : Option BreakReason → Field
  | some r => .text [r.letter]
  | none => .absent 1

/-- Cycles from the first boundary to now (R91). -/
def durationOf (start now : Nat) : Nat := min 65535 ((now - start + (Config.cycleMs - 1)) / Config.cycleMs)

/-- SESSION END (R91). -/
def State.sessionEndNotice (s : State) (x : Session) (code : EndCode) (reason : Option BreakReason) (unsent : Bool) :
    State :=
  s.notice 10 [.num 1 code.ctorIdx, .num 3 x.peer, .num 1 (if x.caller then 0 else 1), .num 1 x.cls,
    roleField x.firstRole, .num 2 s.link.counts.turns, .num 2 s.link.counts.charsOut, .num 2 s.link.counts.charsIn,
    .num 1 s.link.counts.msgsOut, .num 1 s.link.counts.msgsIn, reasonField reason, flag unsent,
    numOr 1 x.announced, .num 2 (durationOf x.start s.now)]

/-- An attempt that reached CALLING failed: NO-ANSWER, or LINK-LOST with no block accepted (R90). -/
def Session.failedAttempt (x : Session) (code : EndCode) : Bool :=
  x.caller && (code = .noAnswer || (code = .linkLost && !x.accepted))

/-- The end of a session for any end code, in the order of R90. A RESTARTED session is followed by no consideration
(R89); a class-3 session held back the frame queue until now (R180). -/
def State.endSession (s : State) (code : EndCode) (reason : Option BreakReason) (unsent : Bool) : State :=
  match s.link.session with
  | some x =>
    let a := s.endReport x.peer code (x.failedAttempt code)
    let b := (a.releasePeer).sessionEndNotice x code reason unsent
    let c := { b.enterIdle with enc := { b.enc with link := none } }
    let d := c.tryPlaceFrame
    if code = .restarted then d else d.consider
  | none => s

/-- The sample of a cycle spent wholly in SENDING, RECEIVING or ENDING (R29, R30, R67). -/
def State.feedCycle (s : State) (x : Session) : State :=
  let v := if x.valid then 16 else 0
  if x.sampled && s.link.phase.inSession then
    State.feedStation { s with dec := { s.dec with acc := s.dec.acc.map fun q => feedQ q v } } x.peer v
  else s

/-- A session that ends within a cycle whose slot has been read: that cycle's sample is fed first. DEDUCED from the 44
samples of chapter 12's catch report, log entry 45. -/
def State.endInCycle (s : State) (code : EndCode) (reason : Option BreakReason) (unsent : Bool) : State :=
  match s.link.session with
  | some x => (s.feedCycle x).endSession code reason unsent
  | none => s

/-- A valid BREAK or R-BREAK ends the session BROKEN-PEER, with the reason of its letter (R88). A BREAK whose letter is
none of the four, which R16 lets be valid, gives no reason: DESIGN CHOICE, log entry 46. So it does while a local reason
is pending for the coming boundary, whose break the cycle it is read in comes before: DESIGN CHOICE, log entry 75. -/
def State.peerBreak (s : State) (letter : Nat) : State := s.endInCycle .brokenPeer (breakReasonOf letter) false

/-! ### The encoder's reports (R19, R20, R22, R67, R77, R87) -/

/-- A block reported sent: the cycle's block was sent, and the first role is sender unless one was taken before
(R77, R91). A block counts as exchanged when it is sent, answered or not, and a closing BREAK does not: DESIGN CHOICE,
log entry 47. -/
def Session.onSent (x : Session) : Session :=
  { x with blockSent := true, firstRole := if x.firstRole.isNone then some .sender else x.firstRole }

/-- A block reported sent; in ENDING it is one more CLOSE sent (R85; log entry 17). -/
def State.blockReported (s : State) : State :=
  (s.onSession Session.onSent).onCounts fun c =>
    { c with closes := if s.link.phase = .ending then min 4 (c.closes + 1) else c.closes }

/-- The encoder reports on a LINK request. A block reported in any way other than sent makes a failed cycle, and a
closing BREAK or R-BREAK ends the session however it is reported (R67, R77, R87). An R-BREAK's cycle has had its slot
read. -/
def State.linkReport (s : State) (r : LinkReq) (report : TxReport) : State :=
  match s.link.session with
  | some x =>
    let sent := report = .sent
    let t := if sent && x.cls = 3 && r.kind ≠ .reply then s.silenceEvent else s
    let reason := match x.breaking with
      | some b => some b
      | none => t.link.pendingBreak
    if r.closing then
      if r.kind = .reply then t.endInCycle .brokenLocal reason (!sent) else t.endSession .brokenLocal reason (!sent)
    else if r.kind = .block then
      if sent then t.blockReported else t.failCycle
    else t
  | none => s

/-! ### Placing (R19) -/

/-- Place a LINK request: one waiting is replaced and reported withdrawn; without an own call the request is discarded
and reported not sent (R19). -/
def State.placeLink (s : State) (r : LinkReq) : State :=
  if s.cfg.ownCall.isSome then
    let t := match s.enc.link with
      | some old => State.linkReport { s with enc := { s.enc with link := none } } old .withdrawn
      | none => s
    { t with enc := { t.enc with link := some r } }
  else s.linkReport r .notSent

/-- Place a block for the long slot of the cycle running. -/
def State.placeBlock (s : State) (x : Session) (kind : LinkKind) (chars : List Nat) (closing : Bool) : State :=
  s.placeLink { kind := kind, chars := chars, slotStart := x.boundary, cls := x.cls, closing := closing }

/-- Place a reply for the short slot of the cycle running. -/
def State.placeReply (s : State) (x : Session) (r : Reply) (closing : Bool) : State :=
  s.placeLink { kind := .reply, chars := r.chars, slotStart := x.boundary + Config.shortStartMs, cls := x.cls,
                closing := closing }

/-! ### Calling (R71, R73) -/

/-- The number of records to announce (R73). -/
def State.announceCount (s : State) (dest : Nat) : Nat := max 1 (min 9 (s.q.out.filter (s.sendable dest)).length)

/-- The session's timing is set: the stream accumulator starts at 2048, and nothing of the slots has been read
(R18, R29). -/
def State.startTiming (s : State) : State :=
  { s with dec := { s.dec with acc := some startQ, slotSyms := [], slotBlocked := s.dec.sync = .spreadSync } }

/-- Place the call half of a CALLING cycle: CALL-A in odd cycles, CALL-B in even ones (R73). -/
def State.placeCall (s : State) (x : Session) : State :=
  if x.callCycle % 2 = 1 then
    s.placeBlock x .callHalf ([BlockType.callA.index, cDigit x.cls] ++ digitIndexes 5 x.peer) false
  else
    s.placeBlock x .callHalf
      ([BlockType.callB.index, cDigit x.ownCount] ++ digitIndexes 5 (s.cfg.ownCall.getD 0)) false

/-- Enter CALLING (R73). -/
def State.enterCalling (s : State) (a : Attempt) : State :=
  let x := { newSession a.dest a.cls true none (s.announceCount a.dest) s.now s.now with callCycle := 1 }
  let t := { s.startTiming with
    nm := { s.nm with overheard := none },
    link := { s.link with phase := .calling, attempt := some a, session := some x, counts := .zero,
                          pendingBreak := none } }
  (t.namePeer a.dest).placeCall x

/-- The end of the backoff: the tests are repeated, and CALLING is entered or IDLE returned to (R71). -/
def State.backoffOver (s : State) : State :=
  match s.link.attempt with
  | some a =>
    if s.passes a.dest a.cls && s.q.out.any (fun r => r.dest = a.dest && r.eligible s.now) then s.enterCalling a
    else s.enterIdle.consider
  | none => s.enterIdle.consider

/-- The short slot of a CALLING cycle (R73). -/
def State.callingShort (s : State) (r : Option Reply) : State :=
  match r with
  | some r =>
    match r.kind with
    | .ready => s.onSession fun x => { x with next := some .sending }
    | .brk => s.peerBreak r.value
    | _ => s
  | none => s

/-! ### Answering (R72, R74) -/

/-- The answer tests (R72). -/
def State.answers (s : State) (caller cls : Nat) : Bool :=
  s.configClosed && cls ≤ 3 && (!s.restricted || cls = 3)
    && !(s.cfg.portOffice = some caller && s.tooWeak caller)

/-- A call for the part (R72, R74): `boundary` is the start of the cycle that completed the pair. -/
def State.answerCall (s : State) (caller cls announced boundary : Nat) : State :=
  if (s.link.phase = .idle || s.link.phase.waiting) && s.answers caller cls then
    let x := { newSession caller cls false (some announced) 1 (boundary + Config.cycleMs) boundary with
      longRead := true }
    let t := { s.startTiming with
      nm := { s.nm with overheard := none },
      link := { s.link with phase := .answering, attempt := none, session := some x, counts := .zero,
                            pendingBreak := none } }
    (t.namePeer caller).placeReply x rReady false
  else s

/-! ### The receiver (R79 to R83, R85) -/

/-- The sequence before `e`. -/
def seqBefore (e : Nat) : Nat := (e + 7) % 8

/-- What a delivered block comes to: accepted with this reply, not deliverable, or R-RESTART. -/
inductive Verdict where
  | accept (r : Reply)
  | hold
  | restart
  deriving DecidableEq, Repr

/-- The text codes of a DATA payload, IDLE left out (R4, R80). -/
def dataCodes (payload : List Nat) : List Nat := (payload.filter (· ≠ cIdle)).map fun i => storeCode (some i)

/-- A number field of a payload. -/
def payloadNumber (payload : List Nat) (i k : Nat) : Option Nat :=
  readNumber ((List.range k).map fun j => payload[i + j]?)

/-- The class of a MSG-BEGIN: a digit "0"–"3", otherwise 0 (R105). -/
def beginClass (payload : List Nat) : Nat :=
  match digitAt payload[2]? with
  | some d => if d ≤ 3 then d else 0
  | none => 0

/-- A valid block with the expected sequence `e`, delivered by its type (R80 to R83, R85). An OVER answered "T" has the part
take the turn at the next boundary (R84), whether or not the encoder then sends the reply: DESIGN CHOICE, log entry 87. -/
def State.deliverBlock (s : State) (x : Session) (b : Block) (e : Nat) : Verdict × State :=
  let yes := Verdict.accept (replyOf .accept e)
  match b.kind with
  | .msgBegin =>
    match s.openIncoming x.peer (payloadNumber b.payload 0 2) (beginClass b.payload) with
    | (true, t) => (yes, t)
    | (false, t) => (.hold, t)
  | .data =>
    match s.openInc with
    | some r =>
      match s.incData r (dataCodes b.payload) with
      | (true, t) => (yes, t.onCounts fun c =>
          { c with charsIn := min 65535 (c.charsIn + (dataCodes b.payload).length) })
      | (false, t) => (.hold, t)
    | none => (yes, s)
  | .msgEnd =>
    match s.openInc with
    | some r => (yes, (s.incEnd r).onCounts fun c => { c with msgsIn := holdAt 255 c.msgsIn })
    | none => (yes, s)
  | .resume =>
    match payloadNumber b.payload 0 2, payloadNumber b.payload 2 3 with
    | some n, some o =>
      match s.resumeMatch x.peer n o with
      | some r => (yes, s.reopen r)
      | none => (.restart, s)
    | _, _ => (.restart, s)
  | .over =>
    if s.q.out.any (s.sendable x.peer) then
      (.accept { kind := .accept, value := cTee }, s.onSession fun y => { y with next := some .turnTaking })
    else (yes, s)
  | .close => (yes, s.onSession fun y => { y with closed := true })
  | _ => (.hold, s)

/-- Reply to the block of the long slot. -/
def State.reply (s : State) (r : Reply) : State :=
  match s.link.session with
  | some x => s.placeReply x r false
  | none => s

/-- A valid block in RECEIVING, not a call half and not BREAK (R79). -/
def State.receiveBlock (s : State) (x : Session) (b : Block) : State :=
  let e := x.expected
  if b.digit = e then
    match s.deliverBlock x b e with
    | (.accept r, t) => (t.onSession fun y => { y with expected := (e + 1) % 8, held := some r }).reply r
    | (.hold, t) => t.reply (replyOf .hold e)
    | (.restart, t) => t.reply { kind := .restart, value := cDigit 0 }
  else if b.digit = seqBefore e then s.reply (x.held.getD (replyOf .request e))
  else s.reply (replyOf .request e)

/-- The long slot of a RECEIVING cycle (R79, R82, R87, R88). -/
def State.receivingLong (s : State) (x : Session) (b : Option Block) : State :=
  match x.breaking with
  | some reason => s.placeReply x { kind := .brk, value := cText reason.letter } true
  | none =>
    match b with
    | some b =>
      match b.kind with
      | .callA | .callB => s.failCycle.reply (replyOf .request x.expected)
      | .brk => s.peerBreak (b.payload.getD 0 0)
      | _ => s.clearFailed.receiveBlock x b
    | none => s.failCycle.reply (replyOf .request x.expected)

/-- The long slot of an ANSWERING cycle (R74). A CLOSE is a valid block of another type and enters RECEIVING, as R74's
table says, although R85 lets a CLOSE outside RECEIVING have no effect: DESIGN CHOICE, log entry 48. -/
def State.answeringLong (s : State) (x : Session) (b : Option Block) : State :=
  match b with
  | some b =>
    match b.kind with
    | .callA | .callB => (s.onSession fun y => { y with empties := 0 }).reply rReady
    | .brk => s.peerBreak (b.payload.getD 0 0)
    | _ =>
      let t := (s.setPhase .receiving).peerInSession
      let y := { x with empties := 0, expected := 0, held := none, firstRole := some .receiver }
      (t.onSession fun _ => y).receivingLong y (some b)
  | none => (s.onSession fun y => { y with empties := y.empties + 1 }).reply rReady

/-! ### The sender (R75 to R78, R81, R83 to R85) -/

/-- The payload of DATA block `k` of a record (R75). -/
def State.dataPayload (s : State) (ref k : Nat) : List Nat :=
  let five := ((s.store.textOf (.out ref)).drop (5 * (k - 1))).take 5
  five.map sendIndex ++ List.replicate (5 - five.length) cIdle

/-- The characters of DATA block `k` of a record of `length` characters. -/
def dataChars (length k : Nat) : Nat := min 5 (length - 5 * (k - 1))

/-- A block's seven characters (R16, R75). -/
def State.blockChars (s : State) (b : SendBlock) : List Nat :=
  let seq := cDigit b.seq
  let idles := List.replicate 5 cIdle
  match b.kind with
  | .msgBegin ref =>
    [BlockType.msgBegin.index, seq] ++ digitIndexes 2 (ref % 100)
      ++ [cDigit (((s.outRec ref).map (·.cls)).getD 0), cIdle, cIdle]
  | .resume ref =>
    [BlockType.resume.index, seq] ++ digitIndexes 2 (ref % 100)
      ++ digitIndexes 3 (((s.outRec ref).map (·.offset)).getD 0)
  | .data ref k => [BlockType.data.index, seq] ++ s.dataPayload ref k
  | .msgEnd _ => [BlockType.msgEnd.index, seq] ++ idles
  | .over => [BlockType.over.index, seq] ++ idles
  | .close => [BlockType.close.index, seq] ++ idles

/-- Place a block for the first time: it takes the next sequence, which advances (R75). -/
def Session.take (x : Session) (k : SendKind) : Session :=
  { x with block := some { kind := k, seq := x.nextSeq }, due := none, nextSeq := (x.nextSeq + 1) % 8 }

/-- The block in flight is accepted, and the next one, if it is not a message boundary, is due (R75, R76). -/
def Session.follow (x : Session) (k : Option SendKind) : Session := { x with block := none, due := k }

/-- The block of a record after its first `offset` DATA blocks: the next DATA block, or MSG-END (R75). -/
def OutRec.following (r : OutRec) : SendKind :=
  if r.offset < r.blocks then .data r.ref (r.offset + 1) else .msgEnd r.ref

/-- The first record eligible for sending to the peer (R75). -/
def State.nextMessage (s : State) (peer : Nat) : Option OutRec := s.q.out.find? (s.sendable peer)

/-- A message boundary: the first record eligible for sending opens, or OVER is sent. The record becomes ACTIVE as its
opening block is placed (R75, R83). -/
def State.messageBoundary (s : State) (x : Session) : State :=
  match s.nextMessage x.peer with
  | some r =>
    let k := if r.offset = 0 then SendKind.msgBegin r.ref else .resume r.ref
    (s.onOut r.ref fun y => { y with state := .active }).onSession fun y => y.take k
  | none => s.onSession fun y => y.take .over

/-- Place the block of a SENDING or ENDING cycle in its long slot: the one in flight again, the one due, or at a message
boundary the next message's (R75, R76, R85). After a MSG-END accepted, the next message, or OVER, is chosen here, at the
cycle boundary, and not at the moment of acceptance: DESIGN CHOICE, log entry 62. -/
def State.placeDue (s : State) : State :=
  let t := match s.link.session with
    | some x =>
      match x.block, x.due with
      | some _, _ => s
      | none, some k => s.onSession fun y => y.take k
      | none, none => s.messageBoundary x
    | none => s
  match t.link.session with
  | some x =>
    match x.block with
    | some b => t.placeBlock x .block (t.blockChars b) false
    | none => t
  | none => t

/-- The record named by a block after it was accepted: the block that follows it is due (R75, R76). -/
def State.followRecord (s : State) (ref : Nat) : State :=
  s.onSession fun x => x.follow ((s.outRec ref).map OutRec.following)

/-- A block is accepted (R76, R83, R85). -/
def State.blockAccepted (s : State) (b : SendBlock) : State :=
  let t := s.onSession fun x => { x with accepted := true }
  match b.kind with
  | .msgBegin ref => t.followRecord ref
  | .resume ref => t.followRecord ref
  | .data ref k =>
    let n := dataChars (((s.outRec ref).map (·.length)).getD 0) k
    let u := t.onOut ref fun r => { r with offset := r.offset + 1 }
    (u.onCounts fun c => { c with charsOut := min 65535 (c.charsOut + n) }).followRecord ref
  | .msgEnd ref =>
    ((t.deliver ref).onCounts fun c => { c with msgsOut := holdAt 255 c.msgsOut }).onSession fun x => x.follow none
  | .over => (t.setPhase .ending).onSession fun x => x.follow (some .close)
  | .close => t.endInCycle .normal none false

/-- A valid R-RESTART to a RESUME: offset 0, and MSG-BEGIN with the same sequence (R81). -/
def State.restartMessage (s : State) (b : SendBlock) (ref : Nat) : State :=
  (s.onOut ref fun r => { r with offset := 0 }).onSession fun x =>
    { x with block := some { kind := .msgBegin ref, seq := b.seq } }

/-- A valid R-HOLD of the block in flight: at 50 the part gives up (R78). -/
def State.holdRead (s : State) : State :=
  let n := min 50 (s.link.counts.holds + 1)
  (s.onCounts fun c => { c with holds := n }).onSession fun x => { x with peerFull := x.peerFull || n = 50 }

/-- A valid reply to the block in flight (R76, R78, R83). An R-REQUEST or R-HOLD of another digit, which stands in no row
of R76's table, leads to the same block again and counts no hold: DESIGN CHOICE, log entry 49. -/
def State.replyRead (s : State) (b : SendBlock) (r : Reply) : State :=
  let t := s.onCounts fun c => { c with failed := 0, holds := if r.kind = .hold then c.holds else 0 }
  match r.kind with
  | .brk => t.peerBreak r.value
  | .accept =>
    if r.value = cDigit b.seq then t.blockAccepted b
    else if r.value = cTee && b.kind = .over then
      t.onSession fun x => { x with accepted := true, next := some .receiving }
    else t
  | .hold => if r.value = cDigit b.seq then t.holdRead else t
  | .restart =>
    match b.kind with
    | .resume ref => t.restartMessage b ref
    | _ => t
  | _ => t

/-- The short slot of a SENDING or ENDING cycle whose block was sent (R76, R77). The cycle of the CLOSE of R78 ends
PEER-FULL whatever it holds. -/
def State.sendingShort (s : State) (x : Session) (r : Option Reply) : State :=
  if x.blockSent && x.breaking.isNone && !x.fullClose then
    match x.block, r with
    | some b, some r => s.replyRead b r
    | _, _ => s.failCycle
  else s

/-! ### The turn-taking phase (R84) -/

/-- The long slot of a turn-taking cycle. -/
def State.takingLong (s : State) (x : Session) (b : Option Block) : State :=
  match b with
  | some b =>
    match b.kind with
    | .over =>
      (s.clearFailed.onSession fun y => { y with overRead := true }).placeReply x { kind := .accept, value := cTee } false
    | .brk => s.peerBreak (b.payload.getD 0 0)
    | _ => s
  | none => s

/-- The short slot of a turn-taking cycle. -/
def State.takingShort (s : State) (x : Session) (r : Option Reply) : State :=
  match r with
  | some r =>
    if r.kind = .request && r.value = cDigit 0 then
      s.clearFailed.onSession fun y => { y with next := some .sending }
    else if r.kind = .brk then s.peerBreak r.value
    else if x.overRead then s
    else s.failCycle
  | none => if x.overRead then s else s.failCycle

/-! ### Slots read (R18, R60, R67) -/

/-- Something valid was read from the peer: a hearing, once in a cycle, and the cycle's sample is 16. -/
def State.heardPeer (s : State) (x : Session) : State :=
  (if x.valid then s else s.hear x.peer).onSession fun y => { y with valid := true }

/-- A valid block read in a session slot is recorded by the decoder, and reported in a class-3 session (R17, R18, R50,
R67). A call half that RECEIVING and turn-taking count as no valid block is reported too: DESIGN CHOICE, log entry 63. -/
def State.sessionBlock (s : State) (x : Session) : State :=
  let t := State.judgeBusy
    { s with dec := { s.dec with lastBlock := (match s.dec.lastBlock with
        | some n => if x.boundary ≤ n then some n else some s.now
        | none => some s.now) } }
  if x.cls = 3 then t.silenceEvent else t

/-- A block read counts as heard from the peer, but for a call half in RECEIVING or turn-taking (R60, R72, R82). -/
def countsAsBlock (phase : Phase) (b : Block) : Bool :=
  phase = .answering || !(b.kind = .callA || b.kind = .callB)

/-- The long slot has been read: the part receives blocks in ANSWERING, RECEIVING and the turn-taking phase. A call half
read in the last two is no hearing of the peer, but is reported as a valid block: DESIGN CHOICE, log entry 63. -/
def State.longSlot (s : State) (x : Session) : State :=
  let t := s.onSession fun y => { y with longRead := true }
  let b := s.readLong x
  let reads := s.link.phase = .answering || s.link.phase = .receiving || (s.link.phase = .sending && x.turnTaking)
  if reads then
    let u := match b with
      | some b => if countsAsBlock s.link.phase b then (t.sessionBlock x).heardPeer x else t.sessionBlock x
      | none => t
    match u.link.phase with
    | .answering => u.answeringLong ((u.link.session).getD x) b
    | .receiving => u.receivingLong ((u.link.session).getD x) b
    | .sending => if x.breaking.isNone then u.takingLong ((u.link.session).getD x) b else u
    | _ => u
  else t

/-- The short slot has passed: the part awaits replies in CALLING, SENDING and ENDING; a receiver that accepted a
CLOSE ends here (R85). -/
def State.shortSlot (s : State) (x : Session) : State :=
  let t := s.onSession fun y => { y with shortRead := true }
  let r := s.readShort x
  let heard := if r.isSome && (x.blockSent || s.link.phase = .calling || x.turnTaking) then t.heardPeer x else t
  match s.link.phase with
  | .calling => heard.callingShort r
  | .sending => if x.turnTaking then heard.takingShort x r else heard.sendingShort x r
  | .ending => heard.sendingShort x r
  | .receiving => if x.closed then t.endInCycle .normal none false else t
  | _ => t

/-- A session slot has ended and is not yet read. -/
def State.slotDue (s : State) : Bool :=
  s.link.phase.running && (match s.link.session with
    | some x =>
      (!x.longRead && x.boundary + Config.longSlotMs ≤ s.now) || (!x.shortRead && x.boundary + Config.shortEndMs ≤ s.now)
    | none => false)

/-- SESSION_SLOT_READ: the slot that has ended is read (R18). -/
def State.slotReadDue (s : State) : State :=
  match s.link.session with
  | some x =>
    if s.slotDue then
      if x.longRead then s.shortSlot x else s.longSlot x
    else s
  | none => s

/-! ### The cycle boundary (R67, R73 to R78, R83 to R87) -/

/-- The sample and the confirmation of the cycle that ends (R29, R30, R60, R67). -/
def State.cycleSample (s : State) (x : Session) : State := (s.feedCycle x).confirmPeer

/-- The end a cycle's limits call for, if any (R73, R74, R77, R78, R82, R85). -/
def State.cycleLimit (s : State) (x : Session) : Option EndCode :=
  if x.fullClose then some .peerFull
  else if 32 ≤ s.link.counts.failed then some .linkLost
  else match s.link.phase with
    | .calling => if 8 ≤ x.callCycle && x.next.isNone then some .noAnswer else none
    | .answering => if 8 ≤ x.empties then some .linkLost else none
    | .ending => if 4 ≤ s.link.counts.closes then some .normalUnconfirmed else none
    | _ => none

/-- A role swap: the sequences and the block start anew, and the turn count rises (R83, R84). -/
def State.swapRole (s : State) (phase : Phase) (taking : Bool) : State :=
  ((s.setPhase phase).onSession fun y =>
    { y with next := none, turnTaking := taking, nextSeq := 0, block := none, due := none }).onCounts fun c =>
      { c with turns := bump c.turns }

/-- A change of role takes place at the boundary (R73, R83, R84). -/
def State.changeRole (s : State) (x : Session) : State :=
  match x.next with
  | some .sending =>
    let t := { s with link := { s.link with phase := .sending, attempt := none } }
    t.peerInSession.onSession fun y =>
      { y with next := none, turnTaking := false, nextSeq := 0, block := none, due := none }
  | some .receiving =>
    ((s.swapRole .receiving false).onSession fun y => { y with expected := 0, held := none }).onCounts fun c =>
      { c with failed := 0, holds := 0 }
  | some .turnTaking => s.swapRole .sending true
  | none => s

/-- The next cycle begins. -/
def State.nextCycle (s : State) : State :=
  let t := s.onSession fun y =>
    { y with boundary := y.boundary + Config.cycleMs, sampled := s.link.phase.inSession, valid := false,
             blockSent := false, overRead := false, longRead := false, shortRead := false }
  let b := ((t.link.session).map (·.boundary)).getD s.now
  { t with dec := { t.dec with slotSyms := t.dec.slotSyms.filter fun y => b ≤ y.time,
                               slotBlocked := t.dec.sync = .spreadSync } }

/-- A pending break is taken (R87): a closing BREAK with the next sequence in the long slot, in place of the block due,
or the short slot's R-BREAK to come, or in CALLING and ANSWERING the end at once. -/
def State.takeBreak (s : State) (reason : BreakReason) : State :=
  match s.link.phase with
  | .calling | .answering => s.endSession .brokenLocal (some reason) false
  | .receiving => s.onSession fun y => { y with breaking := some reason }
  | _ =>
    match s.link.session with
    | some x =>
      (s.onSession fun y => { y with breaking := some reason }).placeBlock x .block
        ([BlockType.brk.index, cDigit x.nextSeq, cText reason.letter] ++ List.replicate 4 cIdle) true
    | none => s

/-- What the cycle that begins carries in its long slot. -/
def State.placeCycle (s : State) : State :=
  match s.link.phase, s.link.session with
  | .calling, some x =>
    let y := { x with callCycle := x.callCycle + 1 }
    (s.onSession fun _ => y).placeCall y
  | .sending, some x =>
    if x.turnTaking then s
    else if x.peerFull then
      match x.block with
      | some b =>
        (s.onSession fun y => { y with fullClose := true }).placeBlock x .block
          (s.blockChars { kind := .close, seq := b.seq }) false
      | none => s
    else s.placeDue
  | .ending, some _ => s.placeDue
  | _, _ => s

/-- The end of a cycle and the start of the next: sample, confirmation, limits, role change, break, and the next
transmission. -/
def State.boundary (s : State) (x : Session) : State :=
  let t := s.cycleSample x
  match t.cycleLimit x with
  | some code => t.endSession code none false
  | none =>
    let u := (t.changeRole x).nextCycle
    match u.link.pendingBreak with
    | some reason => if x.breaking.isSome then u.placeCycle else u.takeBreak reason
    | none => u.placeCycle

/-- The next cycle boundary has come. -/
def State.boundaryDue (s : State) : Bool :=
  s.link.phase.running && (match s.link.session with
    | some x => x.boundary + Config.cycleMs ≤ s.now
    | none => false)

/-! ### Link restart (R89) -/

/-- A link restart ends the link controller's activity at once and enters IDLE. It then considers at the next 5 s, as
R89 says, and not at once, as R70 says of every return to IDLE: DEDUCED, log entry 18. -/
def State.linkRestarted (s : State) : State :=
  if s.link.phase = .idle then s
  else (if s.link.phase.running then s.endSession .restarted none false else s).enterIdle

end Sys2Proof.Machine
end

