-- ==== Sys2Proof/Machine/Overheard.lean ====
section
/-! DEFINITION. Overheard calls and sessions (R56 to R58), and the receive decoder's strobe (R1, R6, R17): what a symbol
does in each sync state. -/

namespace Sys2Proof.Machine

/-- Two alignments are the same: equal modulo the cycle to within half a symbol. -/
def sameAlign (a b : Nat) : Bool :=
  let d := (a + Config.cycleMs - b % Config.cycleMs) % Config.cycleMs
  d ≤ 5 || Config.cycleMs - 5 ≤ d

/-- Two moments are the same to within half a symbol. -/
def nearly (a b : Nat) : Bool := a ≤ b + 5 && b ≤ a + 5

/-! ### Call pairs (R56) -/

/-- A pair between two other stations: it confirms the record that follows it, or replaces the record; both calls are
recorded and marked CALLING, the caller heard (R56). That a confirming pair restarts the record's 120 s, although the pair's
halves are not attributed to it, is log entry 74 (DESIGN CHOICE). -/
def State.overheardPair (s : State) (caller called align : Nat) : State :=
  let a := (((s.recordCall caller).2.hear caller).recordCall called).2
  let b := (a.markOverheard caller .calling called).markOverheard called .calling caller
  let fresh : Overheard :=
    { align := align, caller := caller, called := called, sender := caller, inSession := false, lastValid := s.now,
      lastLong := none, swapAt := none }
  let next := match b.nm.overheard with
    | some o =>
      if o.caller = caller && o.called = called && sameAlign align o.align then { o with lastValid := s.now } else fresh
    | none => fresh
  { b with nm := { b.nm with overheard := some next } }

/-- A pair addressed to the own call: the caller is recorded, heard and marked CALLING, and the call then handed to the
link controller (R56, R72). That the caller is heard before the port office quality is asked is DEDUCED, log entry 10. -/
def State.pairForPart (s : State) (caller own digit announced boundary : Nat) : State :=
  let a := (s.recordCall caller).2
  ((a.hear caller).markOverheard caller .calling own).answerCall caller digit announced boundary

/-- A call pair: its two calls are tested, and it is handed on, recorded or discarded; one of class "3" is a silence
event (R53, R56, R181). `boundary` starts the cycle that completed it. -/
def State.callPair (s : State) (caller called digit announced boundary : Nat) : State :=
  if caller = called then s
  else
    let own := s.cfg.ownCall = some called
    let okCaller := s.callValid caller
    let okCalled := own || s.callValid called
    let t := if okCaller then s else s.rejectCall
    let u := if okCalled then t else t.rejectCall
    if okCaller && okCalled then
      let v := if own then u.pairForPart caller called digit announced boundary
        else u.overheardPair caller called boundary
      if digit = 3 then v.silenceEvent else v
    else u

/-- A valid call half: it completes the pending half of the cycle before at its alignment, or becomes the pending half
(R56). -/
def State.callHalf (s : State) (h : CallHalf) : State :=
  match s.nm.half with
  | some p =>
    if p.isA ≠ h.isA && nearly h.start (p.start + Config.cycleMs) then
      let t := { s with nm := { s.nm with half := none } }
      let a := if h.isA then h else p
      let b := if h.isA then p else h
      t.callPair b.call a.call a.digit b.digit (a.start + (if h.isA then 0 else Config.cycleMs))
    else { s with nm := { s.nm with half := some h } }
  | none => { s with nm := { s.nm with half := some h } }

/-! ### Following an overheard link (R57, R58) -/

/-- The stage as a station state. -/
def Overheard.stage (o : Overheard) : StationState := if o.inSession then .inSession else .calling

/-- A closing exchange or a break: the record ends and both entries are QUIET (R58). -/
def State.endOverheard (s : State) (o : Overheard) : State :=
  State.quietOverheard (State.quietOverheard { s with nm := { s.nm with overheard := none } } o.caller) o.called

/-- A hearing on the overheard link: the station is heard and its entry confirmed with the record's stage and partner
(R57), an entry that has aged to QUIET since too: DESIGN CHOICE, log entry 73. -/
def State.confirmOverheard (s : State) (o : Overheard) (call : Nat) : State :=
  (s.hear call).markOverheard call o.stage (o.other call)

/-- A valid block, not a call half, in the long slot at the record's alignment (R57). -/
def State.overheardBlock (s : State) (record : Overheard) (b : Block) (start : Nat) : State :=
  let o := record.settled s.now
  let o' := { o with inSession := true, lastValid := s.now, lastLong := some (b.kind, start) }
  let t := { s with nm := { s.nm with overheard := some o' } }
  let u := if o.inSession then t
    else (t.markOverheard o.caller .inSession o.called).markOverheard o.called .inSession o.caller
  let v := u.confirmOverheard o' o.sender
  if b.kind = .brk then v.endOverheard o' else v

/-- A valid reply in the short slot at the record's alignment; `start` is its cycle's start, and a swap holds from the
next cycle on (R57). -/
def State.overheardReply (s : State) (record : Overheard) (r : Reply) (start : Nat) : State :=
  let o := record.settled s.now
  let replier := o.other o.sender
  let sameCycle (k : BlockType) : Bool :=
    match o.lastLong with
    | some (kind, t) => kind = k && nearly t start
    | none => false
  let swap := r.kind = .accept && r.value = cTee && sameCycle .over
  let o' := { o with lastValid := s.now, swapAt := if swap then some (start + Config.cycleMs) else o.swapAt }
  let t := State.confirmOverheard { s with nm := { s.nm with overheard := some o' } } o replier
  if r.kind = .brk || (r.kind = .accept && sameCycle .close) then t.endOverheard o' else t

/-- A valid block read outside the part's own session (R56, R57). A call half whose five payload characters are not all
digits names the call 0, which no station has: DESIGN CHOICE, log entry 59. -/
def State.heardBlock (s : State) (b : Block) (start : Nat) : State :=
  let call := (readNumber (b.payload.map some)).getD 0
  match b.kind with
  | .callA => s.callHalf { isA := true, digit := b.digit, call := call, start := start }
  | .callB => s.callHalf { isA := false, digit := b.digit, call := call, start := start }
  | _ =>
    match s.nm.overheard with
    | some o => if sameAlign start o.align then s.overheardBlock o b start else s
    | none => s

/-- A valid reply read outside the part's own session (R57). -/
def State.heardReply (s : State) (r : Reply) (start : Nat) : State :=
  match s.nm.overheard with
  | some o => if sameAlign start o.align then s.overheardReply o r start else s
  | none => s

/-! ### The strobe (R1, R6, R17, R18) -/

/-- An alignment is that of the part's own session. -/
def State.ownAlign (s : State) (start : Nat) : Bool :=
  s.link.phase.running && (match s.link.session with
    | some x => sameAlign start x.boundary
    | none => false)

/-- The window is, slot by slot, four exact phasing pairs (R6). -/
def phasingWindow (w : List Sym) : Bool :=
  w.length = 72
    && (readCopies 8 w).map (·.index) == [some cPhaseA, some cPhaseB, some cPhaseA, some cPhaseB, some cPhaseA,
      some cPhaseB, some cPhaseA, some cPhaseB]

/-- A valid block found in the window: LINKED at its alignment, the block recorded, and handed to the net monitor
unless it stands in a slot of the part's own session (R17, R18, R50). -/
def State.blockFound (s : State) (b : Block) (start : Nat) : State :=
  let t := State.judgeBusy
    { s with dec := { s.dec with sync := .linked, align := some start, lastBlock := some s.now } }
  if t.ownAlign start then t else t.heardBlock b start

/-- A short slot of the LINKED cycle ends with this symbol: its reply is handed when valid (R17). The slot is placed by the
own timebase: it ends with the strobe that comes 1040–1049 ms after the cycle's start, and holds the 18 symbols taken last,
missing strobes or not. DESIGN CHOICE, log entry 86. -/
def State.shortFound (s : State) (align : Nat) : State :=
  let p := (s.now + Config.cycleMs - align % Config.cycleMs) % Config.cycleMs
  if Config.shortEndMs - Config.symbolMs ≤ p && p < Config.shortEndMs then
    let last := s.dec.window.drop (s.dec.window.length - 18)
    match readReply last with
    | some r =>
      let start := s.now - p
      if s.ownAlign align then s else s.heardReply r start
    | none => s
  else s

/-- The window's tests in HUNTING and LINKED (R6, R17). -/
def State.testWindow (s : State) : State :=
  if phasingWindow s.dec.window then s.gainSync
  else match readBlock s.dec.window with
    | some b => s.blockFound b ((s.dec.window.head?.map (·.time)).getD s.now)
    | none =>
      match s.dec.sync, s.dec.align with
      | .linked, some a => s.shortFound a
      | _, _ => s

/-- The last 72 symbols (R1). -/
def lastWindow (w : List Sym) : List Sym := w.drop (w.length - 72)

/-- An RXS strobe taken with KEY released (R1, R34). -/
def State.takeSymbol (s : State) (y : Sym) : State :=
  let t := { s with
    gen := { s.gen with state := Config.generatorStep s.gen.state y.conf },
    dec := { s.dec with
      window := lastWindow (s.dec.window ++ [y]),
      slotSyms := if s.link.phase.running then s.dec.slotSyms ++ [y] else s.dec.slotSyms,
      strobeRef := s.now, gapSeen := false } }
  match t.dec.sync with
  | .spreadSync => t.streamSymbol y
  | _ => t.testWindow

/-- No strobe for 100 ms with KEY released (R1). -/
def State.gapDue (s : State) : Bool := !s.key && !s.dec.gapSeen && s.dec.strobeRef + Config.strobeGapMs ≤ s.now

/-- A strobe gap: the stream is lost, LINKED is left, and the window is emptied (R1, R10). -/
def State.strobeLost (s : State) : State :=
  let t := s.onDec fun d => { d with gapSeen := true, window := [], slotSyms := [] }
  match t.dec.sync with
  | .spreadSync => t.loseSync .strobe
  | .linked => State.judgeBusy (t.onDec fun d => { d with sync := .hunting, align := none })
  | .hunting => t

/-- 1.5 s without a valid block: LINKED is left (R17), and the decoder is no longer in sync by it (R50). -/
def State.linkedOver (s : State) : State :=
  State.judgeBusy (s.onDec fun d =>
    { d with lastBlock := none,
             sync := if d.sync = .linked then .hunting else d.sync,
             align := if d.sync = .linked then none else d.align })

/-- 1.5 s have passed since the last valid block. -/
def State.linkedDue (s : State) : Bool :=
  match s.dec.lastBlock with
  | some t => t + Config.linkedHoldMs ≤ s.now
  | none => false

/-- A link restart of the decoder (R24, R29): a stream is lost, LINKED is left, and the accumulator holds no value. -/
def State.decoderRestart (s : State) : State :=
  let t := if s.dec.sync = .spreadSync then s.loseSync .restart else s
  t.onDec fun d => { d with sync := .hunting, align := none, window := [], slotSyms := [], stream := .empty, acc := none }

end Sys2Proof.Machine
end

