-- ==== Sys2Proof/Machine/Radio.lean ====
section
/-! DEFINITION. The transmit encoder at work (R2, R19 to R23): starting, completing, abandoning a transmission, and what
KEY does to the decoder and the net monitor. -/

namespace Sys2Proof.Machine

/-! ### KEY (R1, R2, R10, R51) -/

/-- KEY is asserted: a spread stream is lost, and the channel is not clear with its timer held at zero. -/
def State.keyAsserted (s : State) : State :=
  let t := State.channelNotClear { s with nm := { s.nm with clear := false, clearStart := none } }
  if t.dec.sync = .spreadSync then t.loseSync .ownKeying else t

/-- KEY is released: the intake window is emptied, the strobe gap runs from here, and the clear-interval timer starts
from zero if the channel is not busy. -/
def State.keyReleased (s : State) : State :=
  { s with dec := { s.dec with window := [], slotSyms := [], strobeRef := s.now, gapSeen := false },
           nm := { s.nm with clearStart := if s.nm.busy then none else some s.now } }

/-! ### Starting (R19, R20) -/

/-- Put a transmission in flight from now. -/
def State.launch (s : State) (item : TxItem) (slots : List Nat) : State :=
  State.keyAsserted
    { s with enc := { s.enc with inFlight := some { item := item, slots := slots, start := s.now } } }

/-- Start a waiting BURST, whose hold timer stops. -/
def State.startBurst (s : State) (r : FrameReq) : State :=
  State.launch
    { s with enc := { s.enc with burst := none },
             dis := { s.dis with heldSince := none, holdDone := false } } (.frame r) r.slots

/-- Start a waiting FRAME. -/
def State.startFrame (s : State) (r : FrameReq) : State :=
  State.launch { s with enc := { s.enc with frame := none } } (.frame r) r.slots

/-- The transmitter is free: nothing in flight and TXINH accepted deasserted. -/
def State.txFree (s : State) : Bool := s.enc.inFlight.isNone && !s.lines.txinh.asserted

/-- A waiting BURST or FRAME can start now (R20). -/
def State.frameStarts (s : State) : Bool :=
  s.txFree && (s.enc.burst.isSome || (s.enc.frame.isSome && !s.nm.busy))

/-- Serve BURST, then FRAME (R20). -/
def State.serveFrames (s : State) : State :=
  if s.txFree then
    match s.enc.burst, s.enc.frame with
    | some r, _ => s.startBurst r
    | none, some r => if s.nm.busy then s else s.startFrame r
    | none, none => s
  else s

/-- A LINK request is withheld: class 0–2, not closing, with silence in force (R19). -/
def State.withholds (s : State) (r : LinkReq) : Bool := s.silence && r.cls ≠ 3 && !r.closing

/-- Start a LINK request. -/
def State.startLink (s : State) (r : LinkReq) : State :=
  s.launch (.link r) r.slots

/-- A LINK request at its slot start: a waiting BURST or FRAME that can start is served in its place; otherwise it is
withheld, dropped, or started, and the outcome reported (R19, R20). -/
def State.serveLink (s : State) (r : LinkReq) : State :=
  let t := s.serveFrames
  let u := { t with enc := { t.enc with link := none } }
  if u.withholds r then u.linkReport r .withheld
  else if u.txFree then u.startLink r
  else u.linkReport r .notSent

/-- A LINK request has come to its slot start. -/
def State.linkSlotDue (s : State) : Bool :=
  match s.enc.link with
  | some r => r.slotStart ≤ s.now
  | none => false

/-! ### Completing and abandoning (R22, R23) -/

/-- The encoder reports a frame's completion to the distress unit. -/
def State.frameCompleted (s : State) (k : FrameKind) : State :=
  match k with
  | .burst => s.burstCompleted
  | .relay => s.relayCompleted
  | .dcancel => s.cancelCompleted

/-- The end of the last symbol: KEY is released and the completion reported (R23). -/
def State.complete (s : State) (t : Transmission) : State :=
  let u := State.keyReleased { s with enc := { s.enc with inFlight := none } }
  match t.item with
  | .frame r => u.frameCompleted r.kind
  | .link r => u.linkReport r .sent

/-- The transmission in flight has sent its last symbol. -/
def State.completeDue (s : State) : Bool :=
  match s.enc.inFlight with
  | some t => t.finish ≤ s.now
  | none => false

/-- A frame returns to its waiting position, unless a newer request stands there (R22). -/
def Encoder.giveBack (e : Encoder) (r : FrameReq) : Encoder :=
  match r.kind with
  | .burst => if e.burst.isSome then e else { e with burst := some r }
  | _ => if e.frame.isSome then e else { e with frame := some r }

/-- An accepted TXINH assertion: KEY is released at once and the transmission abandoned; waiting bursts are held
(R22, R165). -/
def State.abandon (s : State) : State :=
  match s.enc.inFlight with
  | some t =>
    let u := State.keyReleased { s with enc := { s.enc with inFlight := none } }
    match t.item with
    | .frame r => State.holdBurst { u with enc := u.enc.giveBack r }
    | .link r => (u.holdBurst).linkReport r .cutShort
  | none => s.holdBurst

/-- A link restart: a frame in flight returns to wait, LINK transmissions and requests are discarded without report
(R23). -/
def State.encoderRestart (s : State) : State :=
  let t := match s.enc.inFlight with
    | some x =>
      let u := State.keyReleased { s with enc := { s.enc with inFlight := none } }
      (match x.item with
        | .frame r => State.holdBurst { u with enc := u.enc.giveBack r }
        | .link _ => u)
    | none => s
  { t with enc := { t.enc with link := none } }

end Sys2Proof.Machine
end

