-- ==== Sys2Proof/Machine/LinesClock.lean ====
section
/-! DEFINITION. The line unit's filters and the clock (chapter 10). -/

namespace Sys2Proof.Machine

/-! ### Filters (R190 to R192) -/

/-- A change of a raw pin: a candidate is made, kept or discarded (R190). -/
def Input.raw (x : Input) (asserted : Bool) (now : Nat) : Input :=
  if asserted = x.asserted then { x with candidate := none }
  else match x.candidate with
    | some _ => x
    | none => { x with candidate := some now }

/-- A line's candidate has stood for its filter time (R190). -/
def State.lineDue (s : State) (l : Line) : Bool :=
  match (s.lines.input l).candidate with
  | some t => t + s.filterTime l ≤ s.now
  | none => false

/-- An accepted level as its place in R190's list: 0 asserted, 1 deasserted (R201). -/
def levelField (asserted : Bool) : Field := .num 1 (if asserted then 0 else 1)

/-- The four accepted levels. -/
def LineUnit.levels (u : LineUnit) : List Field :=
  [levelField u.dis.asserted, levelField u.cnl.asserted, levelField u.txinh.asserted, levelField u.cd.asserted]

/-- LINE CHANGE: the line and its new level, the snapshot, the line's count, and the time of day (R192). -/
def State.lineNotice (s : State) (l : Line) : State :=
  let x := s.lines.input l
  s.notice 50 ([.num 1 l.ctorIdx, levelField x.asserted] ++ s.lines.levels ++ [.num 2 x.changes, todOr s.tod])

/-- The accepted level handed to the block that uses the line (R192). -/
def State.handLine (s : State) (l : Line) : State :=
  match l with
  | .dis => if s.lines.dis.asserted then s.disRaise else s
  | .cnl => if s.lines.cnl.asserted then s.cnlAccepted else s
  | .txinh => if s.lines.txinh.asserted then s.abandon else s
  | .cd => s.judgeBusy

/-- A change is accepted: the level, the LINE CHANGE notice, then the block (R190, R192). -/
def State.acceptLine (s : State) (l : Line) : State :=
  let x := s.lines.input l
  let y : Input := { asserted := !x.asserted, candidate := none, changes := bump x.changes }
  (State.lineNotice { s with lines := s.lines.setInput l y } l).handLine l

/-! ### The clock (R195 to R198) -/

/-- A TIME's value in ms of the cycle. -/
def timeValue (day : BitVec 16) (seconds : BitVec 24) : Nat := day.toNat * dayMs + seconds.toNat * 1000

/-- A TIME taken: arrival now, synchronized (R196, R197). -/
def State.timeTaken (s : State) (ref : ClockRef) : State :=
  { s with clock := { s.clock with ref := some ref, synced := true, lastTime := some s.now } }

/-- The reading taken at once. -/
def State.refAt (s : State) (value : Nat) : ClockRef := { since := s.now, value := value, stand := 0 }

/-- The first setting: windows as after a step, and the hour close armed if CONFIG CLOSED has come (R131, R145,
R196). -/
def State.firstSetting (s : State) (value : Nat) : State :=
  ((s.timeTaken (s.refAt value)).stepWindows value true 0).armHourClose

/-- A correction: forward, the value is taken at once; backward, the reading stands still (R196). -/
def State.correct (s : State) (reading value : Nat) : State :=
  let ahead := (value + cycleDaysMs - reading) % cycleDaysMs
  let t := { s with clock := { s.clock with corrections := bump s.clock.corrections } }
  if ahead ≤ cycleDaysMs / 2 then t.timeTaken (s.refAt value)
  else t.timeTaken { since := s.now, value := reading, stand := cycleDaysMs - ahead }

/-- A step, forward or backward, reported to the bulletin receiver and the catch tally (R131, R145, R196). -/
def State.stepClock (s : State) (reading value : Nat) (forward : Bool) : State :=
  let ahead := (value + cycleDaysMs - reading) % cycleDaysMs
  let t := { s with clock := { s.clock with steps := bump s.clock.steps } }
  ((t.timeTaken (s.refAt value)).stepWindows reading forward
    (if forward then ahead else (cycleDaysMs - ahead) % cycleDaysMs)).evaluateHour

/-- Seconds in the cycle of 65536 days. -/
def cycleSecs : Nat := 65536 * 86400

/-- TIME judged at its arrival (R196). The difference is taken in whole seconds over the cycle; exactly half of it is
forward. -/
def State.takeTime (s : State) (day : BitVec 16) (seconds : BitVec 24) : State :=
  if 86399 < seconds.toNat then { s with clock := { s.clock with ignoredTimes := bump s.clock.ignoredTimes } }
  else
    let value := timeValue day seconds
    match s.clock.ref with
    | none => s.firstSetting value
    | some c =>
      let reading := c.at s.now
      let d := (value / 1000 + cycleSecs - reading / 1000) % cycleSecs
      if d ≤ 2 || cycleSecs - 2 ≤ d then s.correct reading value
      else s.stepClock reading value (d ≤ cycleSecs / 2)

/-- 600 s have passed since the last TIME taken (R197). -/
def State.lapseDue (s : State) : Bool :=
  s.clock.synced && (match s.clock.lastTime with
    | some t => t + Config.syncMs ≤ s.now
    | none => false)

/-- POSITION judged at its arrival (R198). -/
def State.takePosition (s : State) (latitude longitude : BitVec 32) : State :=
  if latitude.toInt.natAbs ≤ 5400000 ∧ longitude.toInt.natAbs ≤ 10800000 then
    { s with clock := { s.clock with
        position := some { latitude := latitude.toInt, longitude := longitude.toInt, arrival := s.now } } }
  else { s with clock := { s.clock with ignoredPositions := bump s.clock.ignoredPositions } }

end Sys2Proof.Machine
end

