-- ==== Sys2Proof/Machine/Operands.lean ====
section
/-! DEFINITION. The parameter forms of requests (R201): numbers in the fewest whole bytes that hold their range, most
significant first, values named from a list as their place in it, flags as 0 or 1, letters and text as text codes.
Parameters stand in the order their owning rule lists them; bytes after the last parameter are not looked at. -/

namespace Sys2Proof.Machine

/-- The number a run of bytes carries, most significant first. -/
def beNat (bytes : List Byte) : Nat := bytes.foldl (fun n b => 256 * n + b.toNat) 0

/-- The number in the `w` bytes from byte `i` of the parameters, when they are all there. -/
def numAt (params : List Byte) (i w : Nat) : Option Nat :=
  if i + w ≤ params.length then some (beNat ((params.drop i).take w)) else none

/-- The text codes in the `w` bytes from byte `i`, when they are all there. -/
def textAt (params : List Byte) (i w : Nat) : Option (List Nat) :=
  if i + w ≤ params.length then some (((params.drop i).take w).map (·.toNat)) else none

/-- A flag. -/
def flagAt (params : List Byte) (i : Nat) : Option Bool :=
  match numAt params i 1 with
  | some 0 => some false
  | some 1 => some true
  | _ => none

/-- A set of letters from flags given "A" first: bit i is the letter "A" + i. -/
def setOfFlags : List Bool → Nat
  | [] => 0
  | b :: rest => (if b then 1 else 0) + 2 * setOfFlags rest

/-- All of a list of options, when each is there. -/
def allSome {α : Type} : List (Option α) → Option (List α)
  | [] => some []
  | none :: _ => none
  | some x :: rest =>
    match allSome rest with
    | some xs => some (x :: xs)
    | none => none

/-- A set of letters: 26 flags from byte `i`. -/
def lettersAt (params : List Byte) (i : Nat) : Option (BitVec 26) :=
  (allSome ((List.range 26).map fun k => flagAt params (i + k))).map fun fs => BitVec.ofNat 26 (setOfFlags fs)

/-- The set of G, D and S, which every subject set holds (R115). -/
def mustSet : BitVec 26 := BitVec.ofNat 26 (2 ^ 3 + 2 ^ 6 + 2 ^ 18)

/-- The stations or records that a request names: one, by number, or all or the next. -/
inductive Selector where
  | one (n : Nat)
  | every
  deriving DecidableEq, Repr

/-- A selector: byte 0 is 0 for one, whose number of `w` bytes follows, or 1 for all (ACKNOWLEDGE ALERT) or the next
(READ MESSAGE, READ BULLETIN). -/
def selectorAt (params : List Byte) (w : Nat) : Option Selector :=
  match numAt params 0 1 with
  | some 0 => (numAt params 1 w).map .one
  | some 1 => some .every
  | _ => none

/-- An AUX level by its place in R194's list. -/
def auxLevelOf : Nat → Option AuxLevel
  | 0 => some .low
  | 1 => some .high
  | 2 => some .opened
  | _ => none

/-- A relay mode by its place in R178's list. -/
def relayModeOf : Nat → Option RelayMode
  | 0 => some .off
  | 1 => some .bridge
  | 2 => some .auto
  | _ => none

/-- A busy rule by its place in R50's list. -/
def busyRuleOf : Nat → Option BusyRule
  | 0 => some .any
  | 1 => some .both
  | _ => none

/-- An origin filter by its place in R115's list. -/
def originFilterOf : Nat → Option OriginFilter
  | 0 => some .any
  | 1 => some .schedule
  | _ => none

/-- An AUX distress mode by its place in R186's list. -/
def auxModeOf : Nat → Option AuxMode
  | 0 => some .hold
  | 1 => some .release
  | 2 => some .driveHigh
  | 3 => some .driveLow
  | _ => none

/-- A text byte as it is written into a record: 10 and 32–127 as given, any other value as "?" (R206). -/
def intakeCode (b : Byte) : Nat := if b.toNat = 10 ∨ (32 ≤ b.toNat ∧ b.toNat ≤ 127) then b.toNat else 63

/-- A text byte is substituted (R206). -/
def substituted (b : Byte) : Bool := !(b.toNat = 10 || (32 ≤ b.toNat && b.toNat ≤ 127))

end Sys2Proof.Machine
end

