-- ==== Sys2Proof/Machine/Requests.lean ====
section
/-! DEFINITION. What the owner of each whole request does with it and answers (R95, R103, R108, R116, R127, R140, R146,
R160, R167, R177, R194, R211), and the port's transfers (R206 to R209). CONFIGURE and STATUS stand in their own files. -/

namespace Sys2Proof.Machine

/-! Request classes (R201). -/

/-- RAISE DISTRESS. -/
def clsRaise : Nat := 64
/-- CANCEL DISTRESS. -/
def clsCancelDistress : Nat := 65
/-- ACKNOWLEDGE ALERT. -/
def clsAck : Nat := 66
/-- LINK RESTART. -/
def clsRestart : Nat := 72
/-- CONFIGURE. -/
def clsConfigure : Nat := 80
/-- CONFIGURE DONE. -/
def clsConfigureDone : Nat := 81
/-- SEND MESSAGE. -/
def clsSend : Nat := 96
/-- CANCEL MESSAGE. -/
def clsCancelMessage : Nat := 98
/-- READ BULLETIN. -/
def clsReadBulletin : Nat := 104
/-- READ MESSAGE. -/
def clsReadMessage : Nat := 105
/-- HAUL ENTRY. -/
def clsHaul : Nat := 112
/-- CLOSE REPORT. -/
def clsClose : Nat := 113
/-- SET SELECTION. -/
def clsSelection : Nat := 120
/-- SET AUX. -/
def clsAux : Nat := 121
/-- STATUS. -/
def clsStatus : Nat := 128

/-- REFUSED-INVALID, with no content. -/
def State.invalid (s : State) (cls : Nat) (r : Request) : State := s.result cls r .invalid []

/-! ### Distress (R160, R161, R167, R177) -/

/-- RAISE DISTRESS: a nature letter. -/
def State.reqRaise (s : State) (r : Request) : State :=
  match numAt r.params 0 1 with
  | some nature =>
    if !isLetter nature then s.invalid clsRaise r
    else if s.cfg.ownCall.isNone then s.result clsRaise r .notConfigured []
    else match s.dis.own with
      | .none =>
        let t := s.enterAlerting nature
        t.result clsRaise r .done [t.serialField]
      | .cancelling => s.result clsRaise r .state []
      | _ => (s.raiseInForce (some nature)).result clsRaise r .done []
  | none => s.invalid clsRaise r

/-- ALERTING or ACKNOWLEDGED enters CANCEL-PENDING with its 30 s (R167). -/
def State.beginCancel (s : State) : State :=
  { s with dis := { s.dis with own := .cancelPending, prevAck := s.dis.own = .acknowledged,
                               cancelAt := some (s.now + Config.cancelMs) } }

/-- CANCEL DISTRESS. -/
def State.reqCancelDistress (s : State) (r : Request) : State :=
  match s.dis.own with
  | .alerting | .acknowledged => s.beginCancel.result clsCancelDistress r .accepted []
  | _ => s.result clsCancelDistress r .state []

/-- Acknowledge the entries that a test holds of (R177, R184). -/
def State.ackEntries (s : State) (p : DistressEntry → Bool) : State :=
  State.refreshAlarm
    { s with dis := { s.dis with list := s.dis.list.map fun e => if p e then s.ackEntry e else e } }

/-- ACKNOWLEDGE ALERT that names no listed origin, or nothing that can be read: refused with the number of entries still
unacknowledged, which each result carries (R177). -/
def State.ackRefused (s : State) (r : Request) : State :=
  s.result clsAck r .invalid [.num 1 s.dis.unacked.length]

/-- ACKNOWLEDGE ALERT: one origin call, or all. -/
def State.reqAck (s : State) (r : Request) : State :=
  match selectorAt r.params 3 with
  | some (.one origin) =>
    match s.distressEntry origin with
    | some e =>
      let t := s.ackEntries fun x => x.origin = origin
      t.result clsAck r .done [flag e.bridgeAck, .num 1 t.dis.unacked.length]
    | none => s.ackRefused r
  | some .every =>
    let t := s.ackEntries fun _ => true
    t.result clsAck r .done [.num 1 s.dis.unacked.length, .num 1 t.dis.unacked.length]
  | none => s.ackRefused r

/-! ### LINK RESTART (R211) -/

/-- The net monitor's part: overheard link and pending half discarded, the clear-interval timer from zero (R65). -/
def State.monitorRestart (s : State) : State :=
  let t := State.judgeBusy { s with nm := { s.nm with half := none, overheard := none } }
  { t with nm := { t.nm with clear := false, clearStart := if t.nm.busy || t.key then none else some t.now } }

/-- Each block takes the restart: the decoder (with the bulletin receiver), the encoder, the link controller (with the
message queues), the net monitor; the others keep their state. -/
def State.restartAll (s : State) : State := s.decoderRestart.encoderRestart.linkRestarted.monitorRestart

/-- LINK RESTART. -/
def State.reqRestart (s : State) (r : Request) : State := s.restartAll.result clsRestart r .done []

/-! ### Messages (R95, R103, R108) -/

/-- The first test of R95. -/
def State.sendValid (s : State) (dest cls length : Nat) : Bool :=
  s.callValid dest && cls ≤ 3 && 1 ≤ length && length ≤ 4000

/-- SEND MESSAGE: destination, class and length. -/
def State.reqSend (s : State) (r : Request) : State :=
  match numAt r.params 0 3, numAt r.params 3 1, numAt r.params 4 2 with
  | some dest, some cls, some length =>
    if !s.sendValid dest cls length then s.invalid clsSend r
    else if cls = 1 then s.result clsSend r .notAllowed []
    else if s.port.intake.isSome then s.result clsSend r .busy []
    else if 16 ≤ s.q.out.length then s.result clsSend r .full []
    else match s.createOut dest cls length none .intake with
      | (some ref, t) =>
        let i : Intake :=
          { station := r.src, tag := r.tag, ref := ref, length := length, received := 0, expected := 0,
            substituted := 0, last := s.now }
        State.result { t with port := { t.port with intake := some i } } clsSend r .accepted [.num 1 ref]
      | (none, t) => t.result clsSend r .full []
  | _, _, _ => s.invalid clsSend r

/-- CANCEL MESSAGE: a reference. -/
def State.reqCancelMessage (s : State) (r : Request) : State :=
  match (numAt r.params 0 1).bind s.outRec with
  | some x =>
    if x.cls = 1 then s.result clsCancelMessage r .notAllowed []
    else match x.state with
      | .intake => s.result clsCancelMessage r .state []
      | .active => s.result clsCancelMessage r .busy []
      | .queued => (s.removeOut x.ref).result clsCancelMessage r .done []
  | none => s.invalid clsCancelMessage r

/-- Open the readout of a record (R208). -/
def State.openReadout (s : State) (r : Request) (key : RecKey) (total : Nat) : State :=
  let x : Readout :=
    { station := r.src, tag := r.tag, key := key, total := total, next := 0, seq := 0, fragments := 0,
      placed := none, waiting := 0, endPlaced := false, carriedAt := s.now }
  { s with port := { s.port with readout := some x } }

/-- The record "next" names: the COMPLETE record whose completion came earliest (R108). -/
def Queues.nextComplete (q : Queues) : Option IncRec :=
  firstBy (fun a b => a.completed < b.completed) (q.inc.filter fun r => r.state = .complete)

/-- READ MESSAGE: a reference, or the next message. Parameters that cannot be read are answered REFUSED-INVALID (R202)
also while a readout is open, before the BUSY of R108 and R208: DESIGN CHOICE, log entry 66. The on-air number of the
answer is a one-byte number: DESIGN CHOICE, log entry 83. -/
def State.reqReadMessage (s : State) (r : Request) : State :=
  match selectorAt r.params 1 with
  | none => s.invalid clsReadMessage r
  | some sel =>
    if s.port.readout.isSome then s.result clsReadMessage r .busy []
    else
      let found := match sel with
        | .one ref => s.incRec ref
        | .every => s.q.nextComplete
      match found with
      | none => s.invalid clsReadMessage r
      | some x =>
        if x.state = .receiving || x.state = .reading then s.result clsReadMessage r .state []
        else
          let n := s.incLength x
          let t := s.onInc x.ref fun y => { y with state := .reading, before := some y.state }
          (t.openReadout r (.inc x.ref) n).result clsReadMessage r .accepted
            [.num 1 x.ref, .num 3 x.origin, numOr 1 x.number, .num 1 x.cls, .num 2 n, .num 2 x.blocks,
              flag x.truncated, x.state.beforeField]

/-! ### Bulletins (R116, R127) -/

/-- READ BULLETIN: an index, or the next unread. Parameters that cannot be read are answered before the BUSY of R127:
DESIGN CHOICE, log entry 66. -/
def State.reqReadBulletin (s : State) (r : Request) : State :=
  match selectorAt r.params 1 with
  | none => s.invalid clsReadBulletin r
  | some sel =>
    if s.port.readout.isSome then s.result clsReadBulletin r .busy []
    else
      let found := match sel with
        | .one index => s.bulRec index
        | .every => s.bul.nextUnread
      match found with
      | none => s.invalid clsReadBulletin r
      | some x =>
        if x.state = .held then
          ((s.bulReading x.index).openReadout r (.bul x.index) x.c).result clsReadBulletin r .accepted
            ([.num 1 x.index] ++ x.id.fields ++ [ownTime x.start, todOr x.startTod, .num 2 x.c, .num 2 x.e,
              numOr 2 x.r, numOr 1 x.pf, flag x.poor, flag x.truncated, wholeField x.ending, flag x.read])
        else s.result clsReadBulletin r .state []

/-- SET SELECTION: subject set and area set, G, D and S set in the first. -/
def State.reqSelection (s : State) (r : Request) : State :=
  match lettersAt r.params 0, lettersAt r.params 26 with
  | some subjects, some areas =>
    let t := s.onBul fun b => { b with subjects := subjects ||| mustSet, areas := areas }
    t.result clsSelection r .done (letterFlags t.bul.subjects ++ letterFlags t.bul.areas)
  | _, _ => s.invalid clsSelection r

/-! ### Catch (R140, R146) -/

/-- The haul and period serial of a HAUL ENTRY. -/
def haulOf (params : List Byte) : Option (Haul × Nat) :=
  match numAt params 0 2, textAt params 2 3, textAt params 5 4, numAt params 9 3, numAt params 12 2 with
  | some number, some species, some area, some weight, some serial =>
    some ({ number := number, species := species, area := area, weight := weight }, serial)
  | _, _, _, _, _ => none

/-- HAUL ENTRY: haul number, species, area, weight and period serial. -/
def State.reqHaul (s : State) (r : Request) : State :=
  match haulOf r.params with
  | none => s.invalid clsHaul r
  | some (h, serial) =>
    if !haulValid h serial then s.invalid clsHaul r
    else if !(serial = 0 || serial = s.tally.serial) then
      State.result { s with tally := { s.tally with late := bump s.tally.late } } clsHaul r .closed []
    else match s.tally.apply h with
      | none => s.result clsHaul r .full []
      | some (did, t) =>
        State.result { s with tally := t } clsHaul r .done
          ([.num 1 did.ctorIdx, .num 2 t.serial, .num 1 t.hauls.length, .num 1 t.rows.length] ++ rowItems t.rows h)

/-- CLOSE REPORT. The marks are 0 "already pending" and 1 "deferred". -/
def State.reqClose (s : State) (r : Request) : State :=
  if !s.configClosed then s.result clsClose r .state []
  else match s.cfg.ownCall, s.cfg.portOffice with
    | some own, some office =>
      if s.tally.pending.isSome then s.result clsClose r .accepted [.num 1 0]
      else match s.askReport office with
        | (.ok ref, t) =>
          (t.makeClose own ref .request none).result clsClose r .done
            [.num 2 s.tally.serial, .num 1 ref, .num 2 (reportLength s.tally.rows.length)]
        | (.error cause, t) =>
          (t.deferClose .request cause).result clsClose r .accepted [.num 1 1, .num 1 cause.ctorIdx]
    | _, _ => s.result clsClose r .notConfigured []

/-! ### AUX (R194) -/

/-- SET AUX: line index and requested level. A refusal carries no content, for a level outside the list too: DESIGN
CHOICE, log entry 81. -/
def State.reqAux (s : State) (r : Request) : State :=
  match numAt r.params 0 1, (numAt r.params 1 1).bind auxLevelOf with
  | some i, some level =>
    if i ≤ 3 then
      let t := { s with lines := { s.lines with aux := s.lines.aux.set i level } }
      let code := if s.ownDistress && s.cfg.auxModes.getD i .hold ≠ .hold then ResultCode.accepted else .done
      t.result clsAux r code [.num 1 i, .num 1 level.ctorIdx, .num 1 (t.auxDriven i).ctorIdx]
    else s.invalid clsAux r
  | _, _ => s.invalid clsAux r

/-! ### The intake transfer (R206, R207) -/

/-- The request that an intake transfer answers. -/
def Intake.request (i : Intake) : Request := { src := i.station, tag := i.tag, params := [] }

/-- The transfer is abandoned: cause 0 SHORT, 1 GAP, 2 TIMEOUT (R207). -/
def State.abandonIntake (s : State) (i : Intake) (cause : Nat) : State :=
  let t := { s with port := { s.port with intake := none, abandoned := bump s.port.abandoned } }
  (t.removeOut i.ref).result clsSend i.request .invalid [.num 1 i.ref, .num 1 cause, .num 2 i.received]

/-- The transfer completes: the record is QUEUED, the transfer closed and its result sent (R207). -/
def State.completeIntake (s : State) (i : Intake) : State :=
  let t := s.queueRecord i.ref
  State.result { t with port := { t.port with intake := none } } clsSend i.request .done
    [.num 1 i.ref, .num 2 i.length, .num 2 i.substituted]

/-- The expected fragment with its bytes (R206). -/
def State.takeFragment (s : State) (i : Intake) (bytes : List Byte) : State :=
  let need := min 7 (i.length - i.received)
  if bytes.length < need then s.abandonIntake i 0
  else
    let kept := bytes.take (i.length - i.received)
    let i' := { i with
      received := i.received + kept.length, expected := i.expected + 1, last := s.now,
      substituted := i.substituted + (kept.filter substituted).length }
    let t := s.onStore fun st => st.write (.out i.ref) (kept.map intakeCode)
    let u := { t with port := { t.port with intake := some i' } }
    if i.length ≤ i'.received then u.completeIntake i' else u

/-- Count a stray frame (R202, R206). -/
def State.strayFrame (s : State) : State := { s with port := { s.port with stray := bump s.port.stray } }

/-- A TEXT frame (R206). -/
def State.takeText (s : State) (src sequence : Byte) (bytes : List Byte) : State :=
  match s.port.intake with
  | some i =>
    if src ≠ i.station then s.strayFrame
    else if sequence = i.expected then s.takeFragment i bytes
    else if sequence = i.expected - 1 then
      { s with port := { s.port with intake := some { i with last := s.now } } }
    else s.abandonIntake i 1
  | none => s.strayFrame

/-- 5 s without a fragment (R206). -/
def State.intakeDue (s : State) : Option Intake :=
  match s.port.intake with
  | some i => if i.last + Config.intakeMs ≤ s.now then some i else none
  | none => none

/-! ### The readout transfer (R208, R209) -/

/-- The next READOUT TEXT frame can be placed (R208). -/
def State.readoutDue (s : State) : Option Readout :=
  match s.port.readout with
  | some x =>
    let rested := match x.placed with
      | some t => t + Config.readoutMs ≤ s.now
      | none => true
    if x.next < x.total && s.port.held < 4 && rested then some x else none
  | none => none

/-- Place the next READOUT TEXT frame (R208). -/
def State.placeReadout (s : State) (x : Readout) : State :=
  let codes := ((s.store.textOf x.key).drop x.next).take (min 7 (x.total - x.next))
  let p := s.port.place { kind := .readoutText x.station x.seq codes, content := [], carried := 0 }
  let y := { x with next := x.next + min 7 (x.total - x.next), seq := x.seq + 1, fragments := x.fragments + 1,
                    placed := some s.now, waiting := x.waiting + 1 }
  { s with port := { p with readout := some y } }

/-- END OF TEXT can be placed: the last READOUT TEXT has been carried, or there was nothing to send (R208). -/
def State.endTextDue (s : State) : Option Readout :=
  match s.port.readout with
  | some x => if x.total ≤ x.next && x.waiting = 0 && !x.endPlaced && s.port.held < 4 then some x else none
  | none => none

/-- Place END OF TEXT (R208). -/
def State.placeEnd (s : State) (x : Readout) : State :=
  let p := s.port.place { kind := .endOfText x.station x.tag x.next x.fragments, content := [], carried := 0 }
  { s with port := { p with readout := some { x with endPlaced := true } } }

/-- The owner of a record read is told that the readout ended, with END OF TEXT or without (R108, R128, R208). -/
def State.readoutEnded (s : State) (key : RecKey) (whole : Bool) : State :=
  match key with
  | .bul index => s.bulReadEnd index whole
  | .inc ref => if whole then s.incReadDone ref else s.incReadUnfinished ref
  | .out _ => s

/-- A frame carried leaves the outgoing queue, and the next message starts once its last frame is carried (R205). -/
def Port.carry (p : Port) (m : OutMsg) : Port :=
  if m.frames ≤ m.carried + 1 then Port.startNext { p with current := none }
  else { p with current := some { m with carried := m.carried + 1 } }

/-- What a carried frame means to the open readout (R208). -/
def State.readoutCarried (s : State) (kind : OutKind) : State :=
  match s.port.readout with
  | some x =>
    let t := { s with port := { s.port with readout := some { x with carriedAt := s.now } } }
    match kind with
    | .readoutText .. =>
      { t with port := { t.port with readout := some { x with carriedAt := s.now, waiting := x.waiting - 1 } } }
    | .endOfText .. => State.readoutEnded { t with port := { t.port with readout := none } } x.key true
    | _ => t
  | none => s

/-- A frame of the part has been carried on the wire (R205, R208). Where the 5 s of R209 ended a readout at this moment
with one of its frames started, it is that frame which went out, and it has left the queue already: DESIGN CHOICE, log
entry 58. -/
def State.carried (s : State) : State :=
  if s.port.droppedAt = some s.now then { s with port := { s.port with droppedAt := none } }
  else match s.port.current with
    | some m => State.readoutCarried { s with port := s.port.carry m } m.kind
    | none => s

/-- A message is one of the readout's. -/
def OutMsg.ofReadout (m : OutMsg) : Bool :=
  match m.kind with
  | .readoutText .. => true
  | .endOfText .. => true
  | _ => false

/-- The readout's frames leave the queue; of one that was started, the moment is kept (R209). -/
def Port.dropReadout (p : Port) (now : Nat) : Port :=
  let left := { p with waiting := p.waiting.filter fun m => !m.ofReadout }
  match p.current with
  | some m =>
    if m.ofReadout then Port.startNext { left with current := none, droppedAt := some now } else left
  | none => left

/-- 5 s with the readout open and no frame carried (R209). -/
def State.stallDue (s : State) : Option Readout :=
  match s.port.readout with
  | some x => if x.carriedAt + Config.stallMs ≤ s.now then some x else none
  | none => none

/-- The readout ends without END OF TEXT (R209). -/
def State.stall (s : State) (x : Readout) : State :=
  let p := { s.port with readout := none, unfinished := bump s.port.unfinished }
  State.readoutEnded { s with port := p.dropReadout s.now } x.key false

end Sys2Proof.Machine
end

