-- ==== Sys2Proof/Machine/Configure.lean ====
section
/-! DEFINITION. The configuration window (R212 to R214): what each CONFIGURE item records, and CONFIG CLOSED. -/

namespace Sys2Proof.Machine

/-! ### Recording (R213) -/

/-- The mark of a recorded value, in the order R213 names them. -/
inductive Mark where
  | asGiven | clamped | defaulted
  deriving DecidableEq, Repr

/-- What an item makes of its value: recorded with the fields it is echoed in and a mark, or refused. -/
inductive ItemOutcome where
  | recorded (r : Recorded) (echo : List Field) (mark : Mark)
  | invalid
  | full
  deriving DecidableEq, Repr

/-- Judge a CONFIGURE of item `item` (R213): refused once the window has closed; otherwise the outcome is recorded and
answered with the item, the value as recorded and the mark, an adjusted value being counted. -/
def State.configure (s : State) (item : Nat) (r : Request) (judge : ItemOutcome) : State :=
  if s.configClosed then s.result clsConfigure r .state []
  else match judge with
    | .invalid => s.result clsConfigure r .invalid []
    | .full => s.result clsConfigure r .full []
    | .recorded x echo mark =>
      let n := if mark = Mark.asGiven then s.port.adjustments else bump s.port.adjustments
      State.result { s with recd := x, port := { s.port with adjustments := n } } clsConfigure r .done
        ([Field.num 1 item] ++ echo ++ [Field.num 1 mark.ctorIdx])

/-- Record a configured value. -/
def Recorded.set (x : Recorded) (f : Settings → Settings) : Recorded := { x with settings := f x.settings }

/-- A value in range, or defaulted to none. -/
def judgeCall (lo hi : Nat) (v : Option Nat) (f : Option Nat → Recorded) : ItemOutcome :=
  match v with
  | some n =>
    if lo ≤ n ∧ n ≤ hi then .recorded (f (some n)) [.num 3 n] .asGiven else .recorded (f none) [.absent 3] .defaulted
  | none => .invalid

/-- A number clamped to a range. -/
def judgeClamp (w lo hi : Nat) (v : Option Nat) (f : Nat → Recorded) : ItemOutcome :=
  match v with
  | some n =>
    let m := max lo (min hi n)
    .recorded (f m) [.num w m] (if m = n then .asGiven else .clamped)
  | none => .invalid

/-- A value named from a list by its place, or defaulted to the value `dflt` at place `at_`. -/
def judgeNamed {α : Type} (v : Option Nat) (read : Nat → Option α) (at_ : Nat) (dflt : α) (f : α → Recorded) :
    ItemOutcome :=
  match v with
  | some n =>
    match read n with
    | some a => .recorded (f a) [.num 1 n] .asGiven
    | none => .recorded (f dflt) [.num 1 at_] .defaulted
  | none => .invalid

/-- Item 1, own call. -/
def State.itemOwnCall (s : State) (v : List Byte) : ItemOutcome :=
  judgeCall 10000 89999 (numAt v 0 3) fun c => s.recd.set fun x => { x with ownCall := c }

/-- Item 2, port office call. -/
def State.itemPortOffice (s : State) (v : List Byte) : ItemOutcome :=
  judgeCall 90000 99999 (numAt v 0 3) fun c => s.recd.set fun x => { x with portOffice := c }

/-- Repeats after the first dropped. -/
def dropRepeats : List Byte → List Byte → List Byte
  | _, [] => []
  | seen, b :: rest => if seen.contains b then dropRepeats seen rest else b :: dropRepeats (b :: seen) rest

/-- Item 3, bridge stations: 255, the own station number and repeats dropped, then all after the fourth. The list has no
count: every byte after the item code is a station, and as many bytes as are kept are echoed, before the mark. DESIGN
CHOICE, log entry 85. -/
def State.itemBridge (s : State) (v : List Byte) : ItemOutcome :=
  let kept := (dropRepeats [255, s.port.station] v).take 4
  .recorded { s.recd with bridge := kept } (kept.map fun b => .num 1 b.toNat)
    (if kept.length = v.length then .asGiven else .clamped)

/-- Item 4, quotas, recorded as given. -/
def State.itemQuotas (s : State) (v : List Byte) : ItemOutcome :=
  match numAt v 0 2, numAt v 2 2, numAt v 4 2 with
  | some b, some i, some o =>
    .recorded { s.recd with quotas := some { bulletin := b, incoming := i, outgoing := o } }
      [.num 2 b, .num 2 i, .num 2 o] .asGiven
  | _, _, _ => .invalid

/-- Item 5, relay mode. -/
def State.itemRelayMode (s : State) (v : List Byte) : ItemOutcome :=
  judgeNamed (numAt v 0 1) relayModeOf 1 .bridge fun m => s.recd.set fun x => { x with relayMode := m }

/-- Item 6, busy rule. -/
def State.itemBusyRule (s : State) (v : List Byte) : ItemOutcome :=
  judgeNamed (numAt v 0 1) busyRuleOf 0 .any fun m => s.recd.set fun x => { x with busyRule := m }

/-- The nearest of 10, 50 and 200 ms; midway, the longer. -/
def nearestFilter (n : Nat) : Nat := if n < 30 then 10 else if n < 125 then 50 else 200

/-- Item 7, CD filter time. -/
def State.itemCdFilter (s : State) (v : List Byte) : ItemOutcome :=
  match numAt v 0 1 with
  | some n =>
    .recorded (s.recd.set fun x => { x with cdFilter := nearestFilter n }) [.num 1 (nearestFilter n)]
      (if nearestFilter n = n then .asGiven else .clamped)
  | none => .invalid

/-- The window a value gives: coast call, origin letters, start minute, duration, wanted subject, quiet flag. -/
def windowOf (v : List Byte) : Option Window :=
  match numAt v 0 3, textAt v 3 2, numAt v 5 2, numAt v 7 1, numAt v 8 1, flagAt v 9 with
  | some coast, some [a, b], some start, some duration, some subject, some quiet =>
    some { coast := coast, origin1 := a, origin2 := b, start := start, duration := duration, subject := subject,
           quiet := quiet }
  | _, _, _, _, _, _ => none

/-- A window's values other than its duration are in range. -/
def Window.valid (w : Window) : Bool :=
  90000 ≤ w.coast && w.coast ≤ 99999 && w.start ≤ 1439 && isLetter w.origin1 && isLetter w.origin2
    && isLetter w.subject

/-- Item 8, a schedule window, added after those given; its duration is clamped. A ninth window whose values are out of
range is answered REFUSED-INVALID, the values being judged first: DESIGN CHOICE, log entry 88. -/
def State.itemWindow (s : State) (v : List Byte) : ItemOutcome :=
  match windowOf v with
  | some w =>
    if !w.valid then .invalid
    else if 8 ≤ s.recd.windows.length then .full
    else
      let d := max 1 (min 60 w.duration)
      .recorded { s.recd with windows := s.recd.windows ++ [{ w with duration := d }] }
        [.num 3 w.coast, .text [w.origin1, w.origin2], .num 2 w.start, .num 1 d, .text [w.subject], flag w.quiet]
        (if d = w.duration then .asGiven else .clamped)
  | none => .invalid

/-- Item 9, clear schedule. -/
def State.itemClear (s : State) (_ : List Byte) : ItemOutcome :=
  .recorded { s.recd with windows := [] } [] .asGiven

/-- Item 10, initial selection: G, D and S set in the subject set. -/
def State.itemSelection (s : State) (v : List Byte) : ItemOutcome :=
  match lettersAt v 0, lettersAt v 26 with
  | some subjects, some areas =>
    .recorded { s.recd with selection := some (subjects ||| mustSet, areas) }
      (letterFlags (subjects ||| mustSet) ++ letterFlags areas)
      (if subjects ||| mustSet = subjects then .asGiven else .clamped)
  | _, _ => .invalid

/-- Item 11, origin filter. -/
def State.itemOrigins (s : State) (v : List Byte) : ItemOutcome :=
  judgeNamed (numAt v 0 1) originFilterOf 0 .any fun m => { s.recd with origins := m }

/-- Item 12, close hour. -/
def State.itemCloseHour (s : State) (v : List Byte) : ItemOutcome :=
  judgeClamp 1 0 23 (numAt v 0 1) fun n => s.recd.set fun x => { x with closeHour := n }

/-- Item 13, report deadline. -/
def State.itemDeadline (s : State) (v : List Byte) : ItemOutcome :=
  judgeClamp 1 1 24 (numAt v 0 1) fun n => s.recd.set fun x => { x with deadline := n }

/-- Item 14, next serial. -/
def State.itemSerial (s : State) (v : List Byte) : ItemOutcome :=
  judgeClamp 2 1 999 (numAt v 0 2) fun n => { s.recd with nextSerial := some n }

/-- Item 15, watch interval. -/
def State.itemWatch (s : State) (v : List Byte) : ItemOutcome :=
  judgeClamp 2 60 600 (numAt v 0 2) fun n => s.recd.set fun x => { x with watchInterval := n }

/-- Item 16, call threshold. -/
def State.itemThreshold (s : State) (v : List Byte) : ItemOutcome :=
  judgeClamp 1 0 100 (numAt v 0 1) fun n => s.recd.set fun x => { x with threshold := n }

/-- Item 17, good limit. -/
def State.itemGood (s : State) (v : List Byte) : ItemOutcome :=
  judgeClamp 2 0 1000 (numAt v 0 2) fun n => s.recd.set fun x => { x with goodLimit := n }

/-- Item 18, poor limit. -/
def State.itemPoor (s : State) (v : List Byte) : ItemOutcome :=
  judgeClamp 2 0 1000 (numAt v 0 2) fun n => s.recd.set fun x => { x with poorLimit := n }

/-- Item 19, page limit. -/
def State.itemPages (s : State) (v : List Byte) : ItemOutcome :=
  judgeClamp 1 4 32 (numAt v 0 1) fun n => s.recd.set fun x => { x with pageLimit := n }

/-- Item 20, AUX distress mode of a line. -/
def State.itemAuxMode (s : State) (v : List Byte) : ItemOutcome :=
  match numAt v 0 1, numAt v 1 1 with
  | some line, some n =>
    if 3 < line then .invalid
    else
      let m := (auxModeOf n).getD .hold
      .recorded (s.recd.set fun x => { x with auxModes := x.auxModes.set line m })
        [.num 1 line, .num 1 m.ctorIdx] (if (auxModeOf n).isSome then .asGiven else .defaulted)
  | _, _ => .invalid

/-! ### CONFIG CLOSED (R214) -/

/-- The recorded values come into force: the configuration and bridge list, the quotas (R46), the selection and origin
filter (R116), the next serial (R144). Where no initial selection is recorded, the sets of a SET SELECTION taken in the window stay
in force, although R116 and R214 speak of the power-on value: DESIGN CHOICE, log entry 67. -/
def State.applyRecorded (s : State) : State :=
  { s with
    cfg := s.recd.settings,
    port := { s.port with window := none, bridge := s.recd.bridge },
    store := s.store.judgeQuotas s.recd.quotas,
    bul := { s.bul with
      origins := s.recd.origins,
      subjects := (s.recd.selection.map (·.1)).getD s.bul.subjects,
      areas := (s.recd.selection.map (·.2)).getD s.bul.areas,
      windows := s.recd.windows.map fun w => { win := w, state := .inactive, heard := false, grace := none } },
    tally := { s.tally with serial := s.recd.nextSerial.getD s.tally.serial } }

/-- The port office and the schedule coast stations are pinned (R61). -/
def State.pinConfigured (s : State) : State :=
  let t := match s.cfg.portOffice with
    | some c => s.pinCall c fun p => { p with port := true }
    | none => s
  t.bul.windows.foldl (fun u w => u.pinCall w.win.coast fun p => { p with schedule := true }) t

/-- The schedule comes into force: with the clock set, each window takes its state as after a step (R137). -/
def State.scheduleInForce (s : State) : State :=
  match s.clock.ref with
  | some c => s.stepWindows (c.at s.now) true 0
  | none => s

/-- A CD candidate already held for the new filter time is accepted now (R191). -/
def State.recheckCd (s : State) : State := if s.lineDue .cd then s.acceptLine .cd else s

/-- The CONFIG CLOSED notice (R214): its cause is 0 expiry, or 1 CONFIGURE DONE with the source. -/
def State.closedNotice (s : State) (source : Option Byte) : State :=
  s.notice 2 [.num 1 (if source.isSome then 1 else 0), numOr 1 (source.map (·.toNat)), callOr s.cfg.ownCall,
    callOr s.cfg.portOffice, .num 1 s.port.bridge.length, .num 1 s.bul.windows.length, flag s.store.replacedQuotas,
    .num 2 s.port.adjustments]

/-- CONFIG CLOSED: every block puts its values into force, the notice is placed, and then the link controller
considers (R68, R214). -/
def State.closeConfig (s : State) (source : Option Byte) : State :=
  let a := s.applyRecorded.judgeBusy
  let b := a.pinConfigured.scheduleInForce.armHourClose
  let c := b.relaysAfresh.recheckCd
  let d := c.closedNotice source
  State.consider { d with link := { d.link with considerAt := d.now + Config.considerMs } }

/-- CONFIGURE DONE (R212). -/
def State.reqConfigureDone (s : State) (r : Request) : State :=
  if s.configClosed then s.result clsConfigureDone r .state []
  else (s.closeConfig (some r.src)).result clsConfigureDone r .done []

/-- The window's 30 s have passed (R212). -/
def State.windowExpired (s : State) : Bool :=
  match s.port.window with
  | some t => t + Config.windowMs ≤ s.now
  | none => false

end Sys2Proof.Machine
end

