-- ==== Sys2Proof/Machine/Status.lean ====
section
/-! DEFINITION. STATUS (R210): the content of its nineteen items, each in the order its owning rule lists it. A place
whose thing does not exist is carried as an absent field of the width it has when present. -/

namespace Sys2Proof.Machine

/-- A number that holds at its field's maximum of 65535. -/
def hold16 (n : Nat) : Field := .num 2 (min 65535 n)

/-- Seconds elapsed without a stated bound, in four bytes. -/
def secs4 (now t : Nat) : Field := .num 4 (secsSince now t)

/-- An option's field, or absent. -/
def orAbsent {α : Type} (w : Nat) (x : Option α) (f : α → Field) : Field :=
  match x with
  | some a => f a
  | none => .absent w

/-- The number of elements a test holds of, in one byte. -/
def countOf {α : Type} (xs : List α) (p : α → Bool) : Field := .num 1 (xs.filter p).length

/-! ### Radio blocks -/

/-- The role of the part: 0 sender, 1 receiver (R66). -/
def State.role (s : State) : Option Nat :=
  match s.link.phase with
  | .sending | .ending => some 0
  | .receiving => some 1
  | _ => none

/-- Item 1 (R66). The role is carried as 0 sender or 1 receiver, the phase as the flag turn-taking (DESIGN CHOICE, log
entry 53), and the slots remaining rounded up to whole 1.2 s slots (DESIGN CHOICE, log entry 54). -/
def State.itemLink (s : State) : List Field :=
  let x := if s.link.phase.running then s.link.session else none
  let seq := match s.role with
    | some 0 => x.map (·.nextSeq)
    | some _ => x.map (·.expected)
    | none => none
  let slots := if s.link.phase = .backoff then
      some ((s.link.backoffStart + 1200 * s.link.backoffCount - s.now + 1199) / 1200) else none
  [.num 1 s.link.phase.ctorIdx, callOr (s.link.attempt.map (·.dest)), callOr (x.map (·.peer)), numOr 1 s.role,
    (if s.link.phase = .sending then orAbsent 1 x fun y => flag y.turnTaking else .absent 1),
    numOr 1 (x.map (·.cls)), numOr 1 seq, .num 1 s.link.counts.failed, .num 1 s.link.counts.holds,
    .num 2 s.link.counts.turns, numOr 1 slots]

/-- The running time of the current not-busy interval in tenths of a second, holding at 6000 (R51): that of the
clear-interval timer, a part of a tenth dropped (DESIGN CHOICE, log entry 72). -/
def State.clearTenths (s : State) : Nat :=
  match s.nm.clearStart with
  | some t => min 6000 ((s.now - t) / 100)
  | none => 0

/-- Item 2 (R51, R53, R54, R58). -/
def State.itemMonitor (s : State) : List Field :=
  let o := s.nm.overheard.map fun y => y.settled s.now
  [.num 1 s.cfg.busyRule.ctorIdx, flag s.nm.busy, flag s.nm.clear, .num 2 s.clearTenths, flag o.isSome,
    callOr (o.map (·.caller)), callOr (o.map (·.called)), callOr (o.map (·.sender)),
    orAbsent 1 o fun y => flag y.inSession, .num 2 s.nm.rejected, .num 2 s.nm.replaced, .num 2 s.nm.unattributed]

/-- Item 3 (R64). R201 gives a set of reasons no form: the pin reasons are carried as four flags, PORT, SCHEDULE,
DISTRESS and PEER, in R52's order (DESIGN CHOICE, log entry 55). -/
def State.itemStation (s : State) (e : Station) : List Field :=
  [.num 1 s.nm.table.length, .num 3 e.call, .num 1 (if 90000 ≤ e.call then 0 else 1), .num 2 e.q,
    .num 1 (percentOf e.q), .num 2 e.heardCount, orAbsent 2 e.lastHeard fun t => hold16 (secsSince s.now t),
    .num 1 e.state.ctorIdx, secs4 s.now e.stateTime, callOr e.partner, flag e.pins.port, flag e.pins.schedule,
    flag e.pins.distress, flag e.pins.peer]

/-- Item 4 (R15, R35). -/
def State.itemDecoder (s : State) : List Field :=
  [.num 1 s.dec.sync.ctorIdx, numOr 2 s.dec.acc, numOr 1 (s.dec.acc.map percentOf), .num 2 s.dec.synced,
    .num 2 s.dec.losses, .num 2 s.dec.slips, .num 2 s.dec.missed, .num 2 s.dec.unknown]

/-! ### Messages and text -/

/-- Item 5 (R94). -/
def State.itemOutgoing (s : State) : List Field :=
  [countOf s.q.out fun r => r.state = .intake, countOf s.q.out fun r => r.state = .queued,
    countOf s.q.out fun r => r.state = .active, countOf s.q.out fun r => r.cls = 1, .num 1 s.q.outRef,
    countOf s.q.out fun r => s.now < r.nextEligible]

/-- Item 6 (R94). The seconds until next-eligible are 900 at most (R100, R101). -/
def State.itemOutRec (s : State) (r : OutRec) : List Field :=
  [.num 3 r.dest, .num 1 r.cls, .num 2 r.length, .num 2 r.offset, .num 1 r.attempts,
    .num 2 (secsTo s.now r.nextEligible), .num 1 r.state.ctorIdx, todOr r.created, numOr 2 r.serial, endField r.lastEnd]

/-- Item 7 (R110). -/
def State.itemIncoming (s : State) : List Field :=
  [countOf s.q.inc fun r => r.state = .receiving, countOf s.q.inc fun r => r.state = .partly,
    countOf s.q.inc fun r => r.state = .complete, countOf s.q.inc fun r => r.state = .reading,
    countOf s.q.inc fun r => r.state = .complete, .num 1 s.q.incRef]

/-- Item 8 (R104, R110). The on-air number, 00–99, is carried as a number in one byte and not as its two digits:
DESIGN CHOICE, log entry 83. -/
def State.itemIncRec (s : State) (r : IncRec) : List Field :=
  [.num 1 r.ref, .num 3 r.origin, numOr 1 r.number, .num 1 r.cls, .num 2 (s.incLength r), .num 2 r.blocks,
    flag r.truncated, .num 1 r.state.ctorIdx, orAbsent 1 r.before IncState.beforeField, ownTime r.lastChange,
    todOr r.changeTod, secs4 s.now r.lastChange]

/-- A window's items in item 9 (R136). A grace that is none takes no byte, so that the item fits R201's 15 continuations:
DESIGN CHOICE, log entry 93. -/
def State.windowItems (s : State) (w : LiveWindow) : List Field :=
  [.num 1 w.state.ctorIdx, flag w.heard] ++ w.grace.toList.map fun t => .num 1 (secsTo s.now t)

/-- Item 9 (R136). The window list is the items of each configured window, in order and without a count, before the guard
indication: DESIGN CHOICE, log entry 90. With five or more graces running in seven windows, or three or more in eight, the
item has 16 continuations, one more than R201's index holds, and it is sent whole all the same: DESIGN CHOICE, log entry
56. -/
def State.itemBulletins (s : State) : List Field :=
  let b := s.bul
  [.num 2 b.headers, .num 2 b.stored, .num 2 b.filtered, .num 2 b.duplicate, .num 2 b.unreadable, .num 2 b.storeFull,
    .num 2 b.truncations, .num 2 b.missed, countOf b.recs fun r => r.state = .receiving,
    countOf b.recs fun r => r.state = .held, countOf b.recs fun r => r.state = .reading,
    countOf b.recs fun r => r.state = .held && !r.read, .num 1 b.index, .num 1 b.heardList.length]
    ++ letterFlags b.subjects ++ letterFlags b.areas ++ [.num 1 b.origins.ctorIdx]
    ++ (b.windows.map s.windowItems).flatten ++ [flag s.guardOn]

/-- Item 10 (R111, R136). R35 says that P_f and r are not reported by STATUS; R136 asks for the fields of R111, which
hold them, and it is followed: DESIGN CHOICE, log entry 57. -/
def itemBulRec (r : BulRec) : List Field :=
  [.num 1 r.index] ++ r.id.fields
    ++ [ownTime r.start, todOr r.startTod, .num 2 r.c, .num 2 r.e, numOr 2 r.r, numOr 1 r.pf, endingField r.ending,
      flag r.poor, flag r.truncated, flag r.read, .num 1 r.state.ctorIdx]

/-- Item 11 (R47). The counts of each class stand in the order BULLETIN, INCOMING, OUTGOING, that of the quotas Qb, Qi and
Qo: DEDUCED, log entry 94. -/
def State.itemStore (s : State) : List Field :=
  let t := s.store
  [.num 2 t.quota.bulletin, .num 2 t.quota.incoming, .num 2 t.quota.outgoing, .num 2 (t.quotaCount .bulletin),
    .num 2 (t.quotaCount .incoming), .num 2 (t.quotaCount .outgoing), .num 1 (t.reserveCount .bulletin),
    .num 1 (t.reserveCount .incoming), .num 1 (t.reserveCount .outgoing), .num 1 t.reserveInUse, .num 2 t.freePages,
    flag t.replacedQuotas, .num 2 t.full.bulletin, .num 2 t.full.incoming, .num 2 t.full.outgoing]

/-! ### Catch -/

/-- A report watch entry's items in item 12. The time of close is carried in both forms in which R153 holds it, that of
the own timebase in whole seconds since power-on, four bytes, so that four entries fit R201's 15 continuations; R156 names
no form: DESIGN CHOICE, log entry 70. -/
def State.watchItems (s : State) (w : ReportWatch) : List Field :=
  [.num 2 w.serial, .num 1 w.ref, secs4 w.closedAt 0] ++ readingOr w.closed
    ++ [.num 3 (secsTo s.now w.deadline), flag w.overdue]

/-- Item 12 (R144, R156). A flag before the pending close's items says whether there is one, which R156 leaves open:
DESIGN CHOICE, log entry 71. The watch list is sixteen bytes for each entry, in order of close and without a count, before
the two counts: DESIGN CHOICE, log entry 91. -/
def State.itemTally (s : State) : List Field :=
  let t := s.tally
  [.num 2 t.serial] ++ readingOr t.opened
    ++ [.num 1 t.hauls.length, .num 1 t.rows.length, .num 2 t.closes, flag t.closeDay.isSome, .num 1 s.cfg.closeHour,
      numOr 2 t.closeDay, flag t.pending.isSome, orAbsent 1 t.pending fun p => .num 1 p.source.ctorIdx,
      orAbsent 1 t.pending fun p => .num 1 p.cause.ctorIdx, orAbsent 4 t.pending fun p => secs4 s.now p.since,
      orAbsent 1 t.pending fun p => .num 1 (secsTo s.now p.retryAt), .num 1 s.cfg.deadline]
    ++ (t.watch.map s.watchItems).flatten ++ [.num 2 t.late, .num 2 t.deferrals]

/-- Item 13 (R139). -/
def itemHaul (h : Haul) : List Field := [.num 2 h.number, .text h.species, .text h.area, .num 3 h.weight]

/-- Item 14 (R142). -/
def itemRow (r : TallyRow) : List Field :=
  [.text r.species, .text r.area, .num 3 r.total, flag r.saturated, .num 1 r.count]

/-! ### Distress -/

/-- Seconds left of the silence's 15 min, while they run (R181). -/
def State.silenceLeft (s : State) : Option Nat :=
  match s.dis.lastSilence with
  | some t => if s.now < t + Config.silenceMs then some (secsTo s.now (t + Config.silenceMs)) else none
  | none => none

/-- Item 15 (R187). The previous state is carried by its place in R159's own list for it, ALERTING or ACKNOWLEDGED:
DEDUCED, log entry 64. -/
def State.itemDistress (s : State) : List Field :=
  let d := s.dis
  let cancelling := d.own = .cancelPending
  [.num 1 d.own.ctorIdx, s.serialField, letterField d.nature, timeField d.alertTime, .num 2 d.bursts,
    orAbsent 2 d.burstAt fun t => .num 2 (secsTo s.now t), flag d.heldSince.isSome,
    orAbsent 4 d.heldSince fun t => secs4 s.now t,
    (if cancelling then flag d.prevAck else .absent 1),
    (if cancelling then orAbsent 1 d.cancelAt fun t => .num 1 (secsTo s.now t) else .absent 1),
    (if d.own = .cancelling then .num 1 d.cancelCount else .absent 1), flag s.silence, numOr 2 s.silenceLeft,
    .num 1 s.cfg.relayMode.ctorIdx, .num 2 s.cfg.watchInterval]
    ++ (s.cfg.auxModes.map fun m => .num 1 m.ctorIdx)
    ++ [countOf d.queue fun x => x ≠ .dcancel, flag (d.queue.contains .dcancel), flag s.frameOut, .num 2 d.unusable,
      .num 2 d.replaced, .num 2 d.notTracked, .num 2 d.expiries, .num 2 d.relaysSent]

/-- Item 16 (R169). The relayer calls stand in three places, those not filled absent: DESIGN CHOICE, log entry 92. R35 says that P_f is not reported by STATUS; R169 asks for every field, best P_f among them, and it is
followed: DESIGN CHOICE, log entry 57. -/
def State.itemEntry (s : State) (e : DistressEntry) : List Field :=
  [.num 3 e.origin, .num 1 e.serial, letterField e.nature, positionField e.position, timeField e.time,
    ownTime e.firstHeard, todOr e.firstTod, ownTime e.lastHeard, .num 1 e.best, flag e.coastAck.isSome,
    callOr e.coastAck, flag e.bridgeAck, flag e.cancelled, .num 1 e.relays, callOr e.relayers[0]?,
    callOr e.relayers[1]?, callOr e.relayers[2]?, .num 1 e.relay.ctorIdx, orAbsent 1 e.holdOff fun h => .num 1 h.1,
    orAbsent 1 e.holdOff fun h => .num 1 (secsTo s.now h.2), flag e.due, .num 1 e.watch.ctorIdx,
    (if e.watch = .running then .num 2 (secsTo s.now e.watchEnd) else .absent 2)]

/-! ### Lines, clock and port -/

/-- A line's candidate: whether one stands, and for how many ms (R192). -/
def State.candidateItems (s : State) (x : Input) : List Field :=
  [flag x.candidate.isSome, orAbsent 2 x.candidate fun t => hold16 (s.now - t)]

/-- An AUX line's items: requested level, driven level, mode, and whether the mode overrides (R194). -/
def State.auxItems (s : State) (i : Nat) : List Field :=
  let mode := s.cfg.auxModes.getD i .hold
  [.num 1 (s.lines.aux.getD i .low).ctorIdx, .num 1 (s.auxDriven i).ctorIdx, .num 1 mode.ctorIdx,
    flag (s.ownDistress && mode ≠ .hold)]

/-- Item 17 (R192, R194). -/
def State.itemLines (s : State) : List Field :=
  let u := s.lines
  u.levels ++ (s.candidateItems u.dis ++ s.candidateItems u.cnl ++ s.candidateItems u.txinh ++ s.candidateItems u.cd)
    ++ [.num 1 s.cfg.cdFilter, .num 2 u.dis.changes, .num 2 u.cnl.changes, .num 2 u.txinh.changes, .num 2 u.cd.changes]
    ++ (s.auxItems 0 ++ s.auxItems 1 ++ s.auxItems 2 ++ s.auxItems 3)

/-- Item 18 (R199). -/
def State.itemClock (s : State) : List Field :=
  let c := s.clock
  readingOr s.reading
    ++ [flag c.ref.isSome, flag c.synced, orAbsent 2 c.lastTime fun t => hold16 (secsSince s.now t),
      orAbsent 3 c.position fun p => .int 3 p.latitude, orAbsent 4 c.position fun p => .int 4 p.longitude,
      orAbsent 2 c.position fun p => hold16 (secsSince s.now p.arrival), .num 2 c.steps, .num 2 c.corrections,
      .num 2 c.ignoredTimes, .num 2 c.ignoredPositions]

/-- The record of a readout: 0 and the index of a bulletin, 1 and the reference of a message (R215). -/
def keyItems : Option RecKey → List Field
  | some (.bul i) => [.num 1 0, .num 1 i]
  | some (.inc i) => [.num 1 1, .num 1 i]
  | some (.out i) => [.num 1 1, .num 1 i]
  | none => [.absent 1, .absent 1]

/-- Item 19 (R215). The bridge station list stands in four one-byte places without a count, those not filled absent:
DESIGN CHOICE, log entry 89. -/
def State.itemPort (s : State) : List Field :=
  let p := s.port
  let i := p.intake
  let x := p.readout
  [.num 1 p.station.toNat, flag p.adjusted, flag p.window.isSome,
    orAbsent 1 p.window fun t => .num 1 (secsTo s.now (t + Config.windowMs)),
    numOr 1 (p.bridge[0]?.map (·.toNat)), numOr 1 (p.bridge[1]?.map (·.toNat)), numOr 1 (p.bridge[2]?.map (·.toNat)),
    numOr 1 (p.bridge[3]?.map (·.toNat)), .num 1 p.assemblies.length, .num 1 p.held,
    numOr 1 (i.map (·.station.toNat)), numOr 1 (i.map (·.ref)), numOr 2 (i.map (·.length)),
    numOr 2 (i.map (·.received)), numOr 1 (i.map (·.expected.toNat)),
    orAbsent 1 i fun y => .num 1 (secsSince s.now y.last), numOr 1 (x.map (·.station.toNat))]
    ++ keyItems (x.map (·.key))
    ++ [numOr 2 (x.map (·.next)), numOr 1 (x.map (·.seq.toNat)), .num 1 p.serial.toNat, .num 2 p.malformed,
      .num 2 p.duplicates, .num 2 p.stray, .num 2 p.busyAssembly, .num 2 p.accessRefusals, .num 2 p.lost,
      .num 2 p.abandoned, .num 2 p.unfinished, .num 2 p.adjustments]

/-! ### Answering -/

/-- Answer a STATUS with an item's content. -/
def State.answerStatus (s : State) (r : Request) (content : List Field) : State := s.result clsStatus r .done content

/-- Answer a STATUS of an element named by the number in its parameters; one that does not stand is answered
REFUSED-INVALID. -/
def State.answerOne {α : Type} (s : State) (r : Request) (find : Nat → Option α) (content : α → List Field) : State :=
  match (numAt r.params 0 2).bind find with
  | some a => s.answerStatus r (content a)
  | none => s.invalid clsStatus r

/-- The element of a list at a position counted from 1. -/
def atPlace {α : Type} (xs : List α) (n : Nat) : Option α := if n = 0 then none else xs[n - 1]?

end Sys2Proof.Machine
end

