-- ==== Sys2Proof/Machine/Bus.lean ====
section
/-! DEFINITION. The vessel bus port's intake of frames (R200 to R204): which frames it takes, request assemblies, the
bridge-only test, and the handing of a whole request to its owner. -/

namespace Sys2Proof.Machine

/-! ### CONFIGURE and STATUS by item code (R210, R213) -/

/-- What a CONFIGURE item makes of its value, by item code. -/
def State.itemOf (s : State) (item : Nat) (v : List Byte) : ItemOutcome :=
  match item with
  | 1 => s.itemOwnCall v
  | 2 => s.itemPortOffice v
  | 3 => s.itemBridge v
  | 4 => s.itemQuotas v
  | 5 => s.itemRelayMode v
  | 6 => s.itemBusyRule v
  | 7 => s.itemCdFilter v
  | 8 => s.itemWindow v
  | 9 => s.itemClear v
  | 10 => s.itemSelection v
  | 11 => s.itemOrigins v
  | 12 => s.itemCloseHour v
  | 13 => s.itemDeadline v
  | 14 => s.itemSerial v
  | 15 => s.itemWatch v
  | 16 => s.itemThreshold v
  | 17 => s.itemGood v
  | 18 => s.itemPoor v
  | 19 => s.itemPages v
  | 20 => s.itemAuxMode v
  | _ => .invalid

/-- CONFIGURE: an item code and its value. -/
def State.reqConfigure (s : State) (r : Request) : State :=
  match r.params with
  | item :: v => s.configure item.toNat r (s.itemOf item.toNat v)
  | [] => s.configure 0 r .invalid

/-- STATUS of an item; `r` carries the bytes after the item code. -/
def State.statusOf (s : State) (item : Nat) (r : Request) : State :=
  match item with
  | 1 => s.answerStatus r s.itemLink
  | 2 => s.answerStatus r s.itemMonitor
  | 3 => s.answerOne r (atPlace s.ranked) s.itemStation
  | 4 => s.answerStatus r s.itemDecoder
  | 5 => s.answerStatus r s.itemOutgoing
  | 6 => s.answerOne r s.outRec s.itemOutRec
  | 7 => s.answerStatus r s.itemIncoming
  | 8 => s.answerOne r s.incRec s.itemIncRec
  | 9 => s.answerStatus r s.itemBulletins
  | 10 => s.answerOne r s.bulRec itemBulRec
  | 11 => s.answerStatus r s.itemStore
  | 12 => s.answerStatus r s.itemTally
  | 13 => s.answerOne r (atPlace s.tally.hauls) itemHaul
  | 14 => s.answerOne r (atPlace s.tally.rows) itemRow
  | 15 => s.answerStatus r s.itemDistress
  | 16 => s.answerOne r (atPlace s.dis.list) s.itemEntry
  | 17 => s.answerStatus r s.itemLines
  | 18 => s.answerStatus r s.itemClock
  | 19 => s.answerStatus r s.itemPort
  | _ => s.invalid clsStatus r

/-- STATUS: an item code, and for some items a number. -/
def State.reqStatus (s : State) (r : Request) : State :=
  match r.params with
  | item :: rest => s.statusOf item.toNat { r with params := rest }
  | [] => s.invalid clsStatus r

/-! ### Whole requests (R202 to R204) -/

/-- The bridge-only classes (R204). -/
def bridgeOnly (cls : Nat) : Bool := [64, 65, 66, 72, 120].contains cls

/-- A source may make a request: the class is open, the bridge station list empty, or the source in it (R204). -/
def State.entitled (s : State) (cls : Nat) (r : Request) : Bool :=
  !bridgeOnly cls || s.port.bridge.isEmpty || s.port.bridge.contains r.src

/-- A whole request: its owner takes it, or the port refuses a bridge-only request from a source not listed (R204). -/
def State.whole (s : State) (cls : Nat) (r : Request) (owner : State → Request → State) : State :=
  if s.entitled cls r then owner s r
  else State.result { s with port := { s.port with accessRefusals := bump s.port.accessRefusals } } cls r .notAllowed []

/-- The owner of a request class. -/
def ownerOf (cls : Nat) : State → Request → State :=
  match cls with
  | 64 => State.reqRaise
  | 65 => State.reqCancelDistress
  | 66 => State.reqAck
  | 72 => State.reqRestart
  | 80 => State.reqConfigure
  | 81 => State.reqConfigureDone
  | 96 => State.reqSend
  | 98 => State.reqCancelMessage
  | 104 => State.reqReadBulletin
  | 105 => State.reqReadMessage
  | 112 => State.reqHaul
  | 113 => State.reqClose
  | 120 => State.reqSelection
  | 121 => State.reqAux
  | 128 => State.reqStatus
  | _ => fun s _ => s

/-! ### Frames taken and assemblies (R200, R202) -/

/-- A frame from another station acts; one whose source is the own station number is counted and ignored, and nothing
is taken while RESET is low (R189, R200). -/
def State.fromBus (s : State) (src : Byte) (f : State → State) : State :=
  if s.resetLow then s
  else if src = s.port.station then { s with port := { s.port with duplicates := bump s.port.duplicates } }
  else f s

/-- Count a malformed frame (R200). -/
def State.countMalformed (s : State) : State := { s with port := { s.port with malformed := bump s.port.malformed } }

/-- The assembly of a source. -/
def Port.assembly (p : Port) (src : Byte) : Option Assembly := p.assemblies.find? fun a => a.src = src

/-- Remove the assembly of a source. -/
def State.dropAssembly (s : State) (src : Byte) : State :=
  { s with port := { s.port with assemblies := s.port.assemblies.filter fun a => a.src ≠ src } }

/-- An assembly is abandoned, and answered REFUSED-INVALID under its tag (R202). -/
def State.abandonAssembly (s : State) (a : Assembly) : State :=
  (s.dropAssembly a.src).invalid a.cls.toNat { src := a.src, tag := a.tag, params := [] }

/-- A lead abandons an earlier assembly of its source (R202). -/
def State.clearAssembly (s : State) (src : Byte) : State :=
  match s.port.assembly src with
  | some a => s.abandonAssembly a
  | none => s

/-- A whole request from the bus (R200, R202 to R204): the meaning of each request's command. -/
def State.request (s : State) (cls : Nat) (r : Request) (owner : State → Request → State) : State :=
  s.fromBus r.src fun t => (t.clearAssembly r.src).whole cls r owner

/-- A lead frame with its continuation count (R202). -/
def State.takeLead (s : State) (cls : Byte) (r : Request) (count : Byte) : State :=
  if !requestClass cls.toNat || 15 < count.toNat || 6 < r.params.length then s.countMalformed
  else
    let t := s.clearAssembly r.src
    if count = 0 then t.whole cls.toNat r (ownerOf cls.toNat)
    else if 8 ≤ t.port.assemblies.length then
      State.result { t with port := { t.port with busyAssembly := bump t.port.busyAssembly } } cls.toNat r .busy []
    else
      let a : Assembly :=
        { src := r.src, tag := r.tag, cls := cls, count := count, next := 1, params := r.params, last := s.now }
      { t with port := { t.port with assemblies := t.port.assemblies ++ [a] } }

/-- A REQUEST CONTINUATION frame (R202). -/
def State.takeContinuation (s : State) (r : Request) (index : Byte) : State :=
  if r.params = [] || 6 < r.params.length then s.countMalformed
  else match s.port.assembly r.src with
    | some a =>
      if a.tag ≠ r.tag then s.strayFrame
      else if index = a.next then
        let params := a.params ++ r.params
        if index = a.count then
          (s.dropAssembly a.src).whole a.cls.toNat { r with params := params } (ownerOf a.cls.toNat)
        else
          let a' := { a with next := a.next + 1, params := params, last := s.now }
          { s with port := { s.port with assemblies := s.port.assemblies.map fun x => if x.src = a.src then a' else x } }
      else if index = a.next - 1 then s
      else s.abandonAssembly a
    | none => s.strayFrame

/-- An assembly has stood 1 s since its last frame (R202). -/
def Assembly.expired (a : Assembly) (now : Nat) : Bool := a.last + Config.assemblyMs ≤ now

/-- TIME and POSITION (R200). -/
def isBroadcast (f : CanFrame) : Bool := f.cls = 16 || f.cls = 17

/-- A TEXT frame; one with no text byte, or more than seven, does not fit its frame (R200, R206). -/
def State.textFrame (s : State) (src sequence : Byte) (bytes : List Byte) : State :=
  if bytes = [] || 7 < bytes.length then s.countMalformed else s.takeText src sequence bytes

/-- What the port does with the command a fitting frame is (R200). No other command is a frame's. -/
def State.takeFrame (s : State) (c : Instr) : State :=
  match c with
  | .time _ day seconds => s.takeTime day seconds
  | .position _ latitude longitude => s.takePosition latitude longitude
  | .assemblyLead cls r count => s.takeLead cls r count
  | .requestContinuation r index => s.takeContinuation r index
  | .text src sequence bytes => s.textFrame src sequence bytes
  | _ => s

/-- A frame of any kind: from a station strapped alike it is counted; addressed elsewhere it is ignored; one that does
not fit the tables is counted malformed; one that fits acts as its own command does (R200). -/
def State.takeOther (s : State) (f : CanFrame) : State :=
  s.fromBus f.src fun t =>
    if f.dest = t.port.station || (f.dest = 255 && isBroadcast f) then
      match f.command with
      | some c => t.takeFrame c
      | none => t.countMalformed
    else t

end Sys2Proof.Machine
end

