-- ==== Sys2Proof/Machine/Timers.lean ====
section
/-! DEFINITION. The part's own timers and conditions: for each, when it is due, what it does, and the order in which
those due at one moment are taken when no command waits. -/

namespace Sys2Proof.Machine

/-- A moment held has come. -/
def State.reached (s : State) (t : Option Nat) : Bool :=
  match t with
  | some t => t ≤ s.now
  | none => false

/-! ### Net monitor and radio -/

/-- 4.0 s of not busy with KEY released (R51). -/
def State.clearDue (s : State) : Bool :=
  !s.nm.clear && s.reached (s.nm.clearStart.map (· + Config.clearMs))

/-- The channel becomes clear (R51, R70). -/
def State.becomeClear (s : State) : State := State.channelClear { s with nm := { s.nm with clear := true } }

/-- The cycle after a pending half has passed without completing it (R56): a half in it is read by the end of its long
slot, 720 ms after its start, and the part waits one symbol more. DESIGN CHOICE, log entry 61: R56 gives no moment. -/
def State.halfDue (s : State) : Bool :=
  s.reached (s.nm.half.map fun h => h.start + Config.cycleMs + Config.longSlotMs + Config.symbolMs)

/-- 120 s without a valid block or reply on the overheard link (R58). -/
def State.overheardDue (s : State) : Bool := s.reached (s.nm.overheard.map fun o => o.lastValid + Config.agingMs)

/-- The entry of a call ages to QUIET (R59). -/
def State.agingDue (s : State) (call : Nat) : Bool :=
  match s.station call with
  | some e => e.aged s.now
  | none => false

/-- The pulsed ALARM output toggles (R184). -/
def State.pulseDue (s : State) : Bool := s.dis.alarm = .pulsed && s.dis.pulseAt ≤ s.now

/-- Toggle ALARM, each level lasting 1 s. -/
def State.pulse (s : State) : State :=
  { s with dis := { s.dis with alarmOn := !s.dis.alarmOn, pulseAt := s.dis.pulseAt + 1000 } }

/-! ### Link controller and queues -/

/-- The 5 s consideration (R68). -/
def State.considerDue (s : State) : Bool :=
  s.link.phase = .idle && s.configClosed && s.link.considerAt ≤ s.now

/-- Consider, and again in 5 s while IDLE lasts (R68). -/
def State.considerAgain (s : State) : State :=
  State.consider { s with link := { s.link with considerAt := s.now + Config.considerMs } }

/-- The drawn count has passed (R71). -/
def State.backoffDue (s : State) : Bool :=
  s.link.phase = .backoff && s.link.backoffStart + Config.cycleMs * s.link.backoffCount ≤ s.now

/-- A QUEUED record's next-eligible time is reached and not yet reported (R98). -/
def OutRec.eligibleDue (r : OutRec) (now : Nat) : Bool := r.eligible now && !r.told

/-- The record of a reference has a report due. -/
def State.eligibleDue (s : State) (ref : Nat) : Bool :=
  match s.outRec ref with
  | some r => r.eligibleDue s.now
  | none => false

/-- The incoming record of a reference that has expired (R107). -/
def State.expiredInc (s : State) (ref : Nat) : Option IncRec := s.q.inc.find? fun r => r.ref = ref && r.expired s.now

/-! ### Bulletins and catch -/

/-- A heard list entry has expired (R117). -/
def State.heardDue (s : State) : Bool := s.bul.heardList.any fun h => h.expired s.now

/-- Expired heard list entries are removed. -/
def State.forgetHeard (s : State) : State :=
  s.onBul fun b => { b with heardList := b.heardList.filter fun h => !h.expired s.now }

/-- The window of a number, with the state its spans give now. -/
def State.windowAt (s : State) (k : Nat) : Option (LiveWindow × WindowState) :=
  match s.tod, s.bul.windows[k - 1]? with
  | some tod, some w => some (w, w.win.stateAt tod)
  | _, _ => none

/-- The clock reaches a boundary of window `k` (R130). -/
def State.crossWindow (s : State) (k : Nat) : State :=
  match s.windowAt k with
  | some (w, st) => s.windowRun k w st
  | none => s

/-- The grace of window `k` expires: the link controller is told, reason W (R133). -/
def State.graceOver (s : State) (k : Nat) : State :=
  match s.bul.windows[k - 1]? with
  | some w => (s.putWindow k { w with grace := none }).demandBreak .window
  | none => s

/-- The retry timer of the pending close (R150). -/
def State.retryDue (s : State) : Option PendingClose :=
  match s.tally.pending with
  | some p => if p.retryAt ≤ s.now then some p else none
  | none => none

/-- A watch entry of a serial past its deadline and not yet overdue (R155). -/
def ReportWatch.due (w : ReportWatch) (now : Nat) : Bool := !w.overdue && w.deadline ≤ now

/-- The watch entry of a serial, when its deadline is due. -/
def State.overdueWatch (s : State) (serial : Nat) : Option ReportWatch :=
  s.tally.watch.find? fun w => w.serial = serial && w.due s.now

/-! ### Distress -/

/-- The hold timer of a held burst (R165). -/
def State.heldDue (s : State) : Bool :=
  s.enc.burst.isSome && !s.dis.holdDone && s.reached (s.dis.heldSince.map (· + Config.holdMs))

/-- DISTRESS HELD, once for the burst: the own alert serial and the time the burst was placed (R165), as the moment of the
own timebase alone: DESIGN CHOICE, log entry 78. -/
def State.holdOver (s : State) : State :=
  let t := { s with dis := { s.dis with holdDone := true, heldTold := true } }
  if s.dis.heldTold then t
  else t.notice 42 [s.serialField, (match s.enc.burst with
    | some r => ownTime r.placed
    | none => .absent 6)]

/-- The burst timer expires: the next burst is placed (R162). -/
def State.burstOver (s : State) : State := State.placeBurst { s with dis := { s.dis with burstAt := none } }

/-- The cancel timer (R167). -/
def State.cancelDue (s : State) : Bool := s.dis.own = .cancelPending && s.reached s.dis.cancelAt

/-- The cancel was not confirmed: back to the previous state, with CANCEL NOT CONFIRMED (R167). -/
def State.cancelOver (s : State) : State := s.endPending.notice 43 [s.serialField]

/-- The next DCANCEL joins the frame queue (R168). -/
def State.gapOver (s : State) : State := State.queueFrame { s with dis := { s.dis with gapAt := none } } .dcancel

/-- A watch expires (R177). -/
def DistressEntry.watchDue (e : DistressEntry) (now : Nat) : Bool := e.watch = .running && e.watchEnd ≤ now

/-- The entry of an origin, when a test holds of it. -/
def State.entryWhen (s : State) (origin : Nat) (p : DistressEntry → Bool) : Option DistressEntry :=
  match s.distressEntry origin with
  | some e => if p e then some e else none
  | none => none

/-- A watch's expiry: EXPIRED, counted, shown on ALARM and announced (R177, R184, R185). -/
def State.watchOver (s : State) (e : DistressEntry) : State :=
  let t := s.onEntry e.origin fun x => { x with watch := .expired }
  let u := State.refreshAlarm { t with dis := { t.dis with expiries := bump t.dis.expiries } }
  u.alarmNotice .expired e.origin e.serial []

/-- A hold-off has run out (R179). -/
def DistressEntry.holdOffDue (e : DistressEntry) (now : Nat) : Bool :=
  e.relay = .waiting && !e.due && (match e.holdOff with
    | some h => h.2 ≤ now
    | none => false)

/-- A hold-off's expiry: the relay is due and joins the frame queue (R179, R180). -/
def State.holdOffOver (s : State) (e : DistressEntry) : State :=
  (s.onEntry e.origin fun x => { x with due := true }).queueFrame (.relay e.origin)

/-- The REPEAT notice, for the most urgent entry, and the timer started again (R185). -/
def State.repeatOver (s : State) : State :=
  let t := { s with dis := { s.dis with repeatAt := some (s.now + Config.repeatMs) } }
  match s.dis.mostUrgent with
  | some e => t.alarmNotice .repeated e.origin e.serial []
  | none => t

/-- The three things of R176 hold. -/
def DistressEntry.removable (e : DistressEntry) (now : Nat) : Bool :=
  e.bridgeAck && (e.coastAck.isSome || e.cancelled) && e.lastHeard + Config.removalMs ≤ now

/-- The 15 min have passed with own distress NONE (R181). -/
def State.silenceDue (s : State) : Bool :=
  s.dis.own = .none && s.reached (s.dis.lastSilence.map (· + Config.silenceMs))

/-! ### The port -/

/-- The assembly of a source that has expired (R202). -/
def State.expiredAssembly (s : State) (src : Byte) : Option Assembly :=
  s.port.assemblies.find? fun a => a.src = src && a.expired s.now

/-! ### What is due -/

/-- A command when it is due. -/
def when_ (due : Bool) (i : Instr) : Option Instr := if due then some i else none

/-- The command for the first element of a list that is due. -/
def firstDue {α : Type} (xs : List α) (due : α → Bool) (f : α → Instr) : Option Instr := (xs.find? due).map f

/-- The first of some options. -/
def firstSome {α : Type} : List (Option α) → Option α
  | [] => none
  | some a :: _ => some a
  | none :: rest => firstSome rest

/-- The number of the first window, from 1, that a test holds of. -/
def firstWindow (n : Nat) (due : Nat → Bool) (f : Nat → Instr) : Option Instr :=
  firstDue ((List.range n).map (· + 1)) due f

/-- What is due of the line unit, the encoder, the decoder and the link controller. -/
def State.dueRadio (s : State) : Option Instr :=
  firstSome [
    when_ s.completeDue .transmissionComplete,
    when_ (s.lineDue .dis) (.acceptedChange .dis),
    when_ (s.lineDue .cnl) (.acceptedChange .cnl),
    when_ (s.lineDue .txinh) (.acceptedChange .txinh),
    when_ (s.lineDue .cd) (.acceptedChange .cd),
    when_ s.gapDue .strobeGap,
    when_ s.linkedDue .linkedTimeout,
    when_ s.slotDue .sessionSlotRead,
    when_ s.boundaryDue .cycleBoundary,
    when_ s.frameStarts .startTransmission,
    when_ s.linkSlotDue .linkSlotStart,
    when_ s.clearDue .clearInterval,
    when_ s.halfDue .pendingHalfExpiry,
    when_ s.overheardDue .overheardLinkTimeout,
    firstDue s.nm.table (·.aged s.now) fun e => .entryAging e.call,
    when_ s.backoffDue .backoffEnd,
    when_ s.considerDue .consideration]

/-- What is due of the records, the schedule and the catch tally. A grace that runs out at the moment its window ends
expires, so it is taken first (R133). -/
def State.dueRecords (s : State) : Option Instr :=
  firstSome [
    firstDue s.q.out (·.eligibleDue s.now) fun r => .nextEligibleReached r.ref,
    firstDue s.q.inc (·.expired s.now) fun r => .partialExpiry r.ref,
    when_ s.heardDue .heardListExpiry,
    firstWindow s.bul.windows.length s.graceDue .graceExpiry,
    firstWindow s.bul.windows.length s.windowDue .windowBoundary,
    when_ s.hourDue.isSome .closeInstant,
    when_ s.retryDue.isSome .closeRetry,
    firstDue s.tally.watch (·.due s.now) fun w => .reportOverdue w.serial]

/-- What is due of the distress unit, the clock and the port. -/
def State.dueRest (s : State) : Option Instr :=
  firstSome [
    when_ (s.reached s.dis.burstAt) .burstTimerExpiry,
    when_ s.heldDue .distressHeld,
    when_ s.cancelDue .cancelTimerExpiry,
    when_ (s.reached s.dis.gapAt) .cancelGapExpiry,
    firstDue s.dis.list (·.watchDue s.now) fun e => .watchExpiry e.origin,
    firstDue s.dis.list (·.holdOffDue s.now) fun e => .holdOffExpiry e.origin,
    when_ (s.reached s.dis.repeatAt) .alarmRepeat,
    firstDue s.dis.list (·.removable s.now) fun e => .entryRemoval e.origin,
    when_ s.silenceDue .silenceEnd,
    when_ s.pulseDue .alarmPulse,
    when_ s.lapseDue .syncLapse,
    firstDue s.port.assemblies (·.expired s.now) fun a => .assemblyTimeout a.src,
    when_ s.intakeDue.isSome .intakeTimeout,
    when_ s.readoutDue.isSome .readoutText,
    when_ s.endTextDue.isSome .endOfText,
    when_ s.stallDue.isSome .readoutStall,
    when_ s.windowExpired .configWindowExpiry]

/-- The part's own command that is due at this moment and taken first. -/
def State.nextDue (s : State) : Option Instr := firstSome [s.dueRadio, s.dueRecords, s.dueRest]

/-- What a step does on an empty queue: while RESET is low, nothing; otherwise the first command due joins the queue,
or else one millisecond of the own timebase passes. DESIGN CHOICE: the manual's own timebase is a count from a 16 MHz
clock, and its table of steps has no row for a tick. -/
def State.idle (s : State) : State :=
  if s.resetLow then s
  else match s.nextDue with
    | some i => { s with pending := [i] }
    | none => { s with now := s.now + 1 }

/-! ### Outcomes -/

/-- A command taken at any time but while RESET is low, when nothing is taken (R189). -/
def State.taken (s : State) (f : State → State) : Host.Outcome State Fault Refusal :=
  .next (if s.resetLow then s else f s)

/-- A command of the part's own: it acts when it is due, and leaves the state as it is when it is not. -/
def State.timed (s : State) (due : Bool) (f : State → State) : Host.Outcome State Fault Refusal :=
  s.taken fun t => if due then f t else t

/-- A command of the part's own for something that must stand: it acts on it, or changes nothing. -/
def State.timedOn {α : Type} (s : State) (x : Option α) (f : State → α → State) : Host.Outcome State Fault Refusal :=
  s.taken fun t => match x with
    | some a => f t a
    | none => t

end Sys2Proof.Machine
end

