-- ==== Sys2Proof/Machine/BusCommands.lean ====
section
/-! DEFINITION. The meanings of the frames, requests and transfers of the vessel bus. -/

namespace Sys2Proof.Machine

/-- TIME: judged by the clock at its arrival, from any source (R196, R200). -/
def execTime (src : Byte) (day : BitVec 16) (seconds : BitVec 24) (s : State) : Host.Outcome State Fault Refusal :=
  s.taken fun t => t.fromBus src fun u => u.takeTime day seconds

/-- POSITION: judged by the clock at its arrival, from any source (R198, R200). -/
def execPosition (src : Byte) (latitude longitude : BitVec 32) (s : State) : Host.Outcome State Fault Refusal :=
  s.taken fun t => t.fromBus src fun u => u.takePosition latitude longitude

/-- MALFORMED_FRAME: a frame off the bus, judged whole (R200). -/
def execMalformedFrame (f : CanFrame) (s : State) : Host.Outcome State Fault Refusal :=
  s.taken fun t => t.takeOther f

/-- ASSEMBLY_LEAD: a request lead frame with its continuation count (R202). -/
def execAssemblyLead (cls : Byte) (r : Request) (count : Byte) (s : State) : Host.Outcome State Fault Refusal :=
  s.taken fun t => t.fromBus r.src fun u => u.takeLead cls r count

/-- REQUEST_CONTINUATION: a continuation of an assembly (R202). -/
def execRequestContinuation (r : Request) (index : Byte) (s : State) : Host.Outcome State Fault Refusal :=
  s.taken fun t => t.fromBus r.src fun u => u.takeContinuation r index

/-- ASSEMBLY_TIMEOUT: an assembly is abandoned after 1 s (R202). -/
def execAssemblyTimeout (src : Byte) (s : State) : Host.Outcome State Fault Refusal :=
  s.timedOn (s.expiredAssembly src) State.abandonAssembly

/-- LINK_RESTART: every block takes the restart (R211). -/
def execLinkRestart (r : Request) (s : State) : Host.Outcome State Fault Refusal :=
  s.taken fun t => t.request clsRestart r State.reqRestart

/-- RAISE_DISTRESS (R160, R161). -/
def execRaiseDistress (r : Request) (s : State) : Host.Outcome State Fault Refusal :=
  s.taken fun t => t.request clsRaise r State.reqRaise

/-- CANCEL_DISTRESS (R167). -/
def execCancelDistress (r : Request) (s : State) : Host.Outcome State Fault Refusal :=
  s.taken fun t => t.request clsCancelDistress r State.reqCancelDistress

/-- ACKNOWLEDGE_ALERT (R177). -/
def execAcknowledgeAlert (r : Request) (s : State) : Host.Outcome State Fault Refusal :=
  s.taken fun t => t.request clsAck r State.reqAck

/-- SEND_MESSAGE (R95). -/
def execSendMessage (r : Request) (s : State) : Host.Outcome State Fault Refusal :=
  s.taken fun t => t.request clsSend r State.reqSend

/-- TEXT: an intake fragment (R206). -/
def execText (src sequence : Byte) (bytes : List Byte) (s : State) : Host.Outcome State Fault Refusal :=
  s.taken fun t => t.fromBus src fun u => u.textFrame src sequence bytes

/-- INTAKE_TIMEOUT: 5 s without a fragment abandon the transfer (R206, R207). -/
def execIntakeTimeout (s : State) : Host.Outcome State Fault Refusal :=
  s.timedOn s.intakeDue fun t i => t.abandonIntake i 2

/-- CANCEL_MESSAGE (R103). -/
def execCancelMessage (r : Request) (s : State) : Host.Outcome State Fault Refusal :=
  s.taken fun t => t.request clsCancelMessage r State.reqCancelMessage

/-- READ_MESSAGE (R108). -/
def execReadMessage (r : Request) (s : State) : Host.Outcome State Fault Refusal :=
  s.taken fun t => t.request clsReadMessage r State.reqReadMessage

/-- READ_BULLETIN (R127). -/
def execReadBulletin (r : Request) (s : State) : Host.Outcome State Fault Refusal :=
  s.taken fun t => t.request clsReadBulletin r State.reqReadBulletin

/-- READOUT_TEXT: the next fragment of the readout is placed (R208). -/
def execReadoutText (s : State) : Host.Outcome State Fault Refusal :=
  s.timedOn s.readoutDue State.placeReadout

/-- END_OF_TEXT: the readout's last frame is placed (R208). -/
def execEndOfText (s : State) : Host.Outcome State Fault Refusal :=
  s.timedOn s.endTextDue State.placeEnd

/-- FRAME_CARRIED: a frame has been sent and acknowledged on the wire (R205, R208). -/
def execFrameCarried (s : State) : Host.Outcome State Fault Refusal :=
  s.taken State.carried

/-- SENDING_STOPS: bus-off, or a frame not acknowledged (R205). -/
def execSendingStops (s : State) : Host.Outcome State Fault Refusal :=
  s.taken fun t => { t with port := { t.port with stopped := true } }

/-- SENDING_RESUMES: the queue goes on (R205). -/
def execSendingResumes (s : State) : Host.Outcome State Fault Refusal :=
  s.taken fun t => { t with port := Port.startNext { t.port with stopped := false } }

/-- READOUT_STALL: the readout ends without END OF TEXT (R209). -/
def execReadoutStall (s : State) : Host.Outcome State Fault Refusal :=
  s.timedOn s.stallDue State.stall

/-- HAUL_ENTRY (R140, R141). -/
def execHaulEntry (r : Request) (s : State) : Host.Outcome State Fault Refusal :=
  s.taken fun t => t.request clsHaul r State.reqHaul

/-- CLOSE_REPORT (R146). -/
def execCloseReport (r : Request) (s : State) : Host.Outcome State Fault Refusal :=
  s.taken fun t => t.request clsClose r State.reqClose

/-- SET_SELECTION (R116). -/
def execSetSelection (r : Request) (s : State) : Host.Outcome State Fault Refusal :=
  s.taken fun t => t.request clsSelection r State.reqSelection

/-- SET_AUX (R194). -/
def execSetAux (r : Request) (s : State) : Host.Outcome State Fault Refusal :=
  s.taken fun t => t.request clsAux r State.reqAux

end Sys2Proof.Machine
end

