-- ==== Sys2Proof/Machine/ConfigCommands.lean ====
section
/-! DEFINITION. The meanings of the configuration window's commands. -/

namespace Sys2Proof.Machine

/-- CONFIGURE_OWN_CALL: item 1 (R213). -/
def execConfigureOwnCall (r : Request) (s : State) : Host.Outcome State Fault Refusal :=
  s.taken fun t => t.request clsConfigure r fun u q => u.configure 1 q (u.itemOwnCall q.params)

/-- CONFIGURE_PORT_OFFICE: item 2 (R213). -/
def execConfigurePortOffice (r : Request) (s : State) : Host.Outcome State Fault Refusal :=
  s.taken fun t => t.request clsConfigure r fun u q => u.configure 2 q (u.itemPortOffice q.params)

/-- CONFIGURE_BRIDGE_STATIONS: item 3 (R213). -/
def execConfigureBridgeStations (r : Request) (s : State) : Host.Outcome State Fault Refusal :=
  s.taken fun t => t.request clsConfigure r fun u q => u.configure 3 q (u.itemBridge q.params)

/-- CONFIGURE_QUOTAS: item 4 (R213). -/
def execConfigureQuotas (r : Request) (s : State) : Host.Outcome State Fault Refusal :=
  s.taken fun t => t.request clsConfigure r fun u q => u.configure 4 q (u.itemQuotas q.params)

/-- CONFIGURE_RELAY_MODE: item 5 (R213). -/
def execConfigureRelayMode (r : Request) (s : State) : Host.Outcome State Fault Refusal :=
  s.taken fun t => t.request clsConfigure r fun u q => u.configure 5 q (u.itemRelayMode q.params)

/-- CONFIGURE_BUSY_RULE: item 6 (R213). -/
def execConfigureBusyRule (r : Request) (s : State) : Host.Outcome State Fault Refusal :=
  s.taken fun t => t.request clsConfigure r fun u q => u.configure 6 q (u.itemBusyRule q.params)

/-- CONFIGURE_CD_FILTER_TIME: item 7 (R213). -/
def execConfigureCdFilterTime (r : Request) (s : State) : Host.Outcome State Fault Refusal :=
  s.taken fun t => t.request clsConfigure r fun u q => u.configure 7 q (u.itemCdFilter q.params)

/-- CONFIGURE_SCHEDULE_WINDOW: item 8 (R213). -/
def execConfigureScheduleWindow (r : Request) (s : State) : Host.Outcome State Fault Refusal :=
  s.taken fun t => t.request clsConfigure r fun u q => u.configure 8 q (u.itemWindow q.params)

/-- CONFIGURE_CLEAR_SCHEDULE: item 9 (R213). -/
def execConfigureClearSchedule (r : Request) (s : State) : Host.Outcome State Fault Refusal :=
  s.taken fun t => t.request clsConfigure r fun u q => u.configure 9 q (u.itemClear q.params)

/-- CONFIGURE_INITIAL_SELECTION: item 10 (R213). -/
def execConfigureInitialSelection (r : Request) (s : State) : Host.Outcome State Fault Refusal :=
  s.taken fun t => t.request clsConfigure r fun u q => u.configure 10 q (u.itemSelection q.params)

/-- CONFIGURE_ORIGIN_FILTER: item 11 (R213). -/
def execConfigureOriginFilter (r : Request) (s : State) : Host.Outcome State Fault Refusal :=
  s.taken fun t => t.request clsConfigure r fun u q => u.configure 11 q (u.itemOrigins q.params)

/-- CONFIGURE_CLOSE_HOUR: item 12 (R213). -/
def execConfigureCloseHour (r : Request) (s : State) : Host.Outcome State Fault Refusal :=
  s.taken fun t => t.request clsConfigure r fun u q => u.configure 12 q (u.itemCloseHour q.params)

/-- CONFIGURE_REPORT_DEADLINE: item 13 (R213). -/
def execConfigureReportDeadline (r : Request) (s : State) : Host.Outcome State Fault Refusal :=
  s.taken fun t => t.request clsConfigure r fun u q => u.configure 13 q (u.itemDeadline q.params)

/-- CONFIGURE_NEXT_SERIAL: item 14 (R213). -/
def execConfigureNextSerial (r : Request) (s : State) : Host.Outcome State Fault Refusal :=
  s.taken fun t => t.request clsConfigure r fun u q => u.configure 14 q (u.itemSerial q.params)

/-- CONFIGURE_WATCH_INTERVAL: item 15 (R213). -/
def execConfigureWatchInterval (r : Request) (s : State) : Host.Outcome State Fault Refusal :=
  s.taken fun t => t.request clsConfigure r fun u q => u.configure 15 q (u.itemWatch q.params)

/-- CONFIGURE_CALL_THRESHOLD: item 16 (R213). -/
def execConfigureCallThreshold (r : Request) (s : State) : Host.Outcome State Fault Refusal :=
  s.taken fun t => t.request clsConfigure r fun u q => u.configure 16 q (u.itemThreshold q.params)

/-- CONFIGURE_GOOD_LIMIT: item 17 (R213). -/
def execConfigureGoodLimit (r : Request) (s : State) : Host.Outcome State Fault Refusal :=
  s.taken fun t => t.request clsConfigure r fun u q => u.configure 17 q (u.itemGood q.params)

/-- CONFIGURE_POOR_LIMIT: item 18 (R213). -/
def execConfigurePoorLimit (r : Request) (s : State) : Host.Outcome State Fault Refusal :=
  s.taken fun t => t.request clsConfigure r fun u q => u.configure 18 q (u.itemPoor q.params)

/-- CONFIGURE_PAGE_LIMIT: item 19 (R213). -/
def execConfigurePageLimit (r : Request) (s : State) : Host.Outcome State Fault Refusal :=
  s.taken fun t => t.request clsConfigure r fun u q => u.configure 19 q (u.itemPages q.params)

/-- CONFIGURE_AUX_DISTRESS_MODE: item 20 (R213). -/
def execConfigureAuxDistressMode (r : Request) (s : State) : Host.Outcome State Fault Refusal :=
  s.taken fun t => t.request clsConfigure r fun u q => u.configure 20 q (u.itemAuxMode q.params)

/-- CONFIGURE_DONE: the window closes (R212, R214). -/
def execConfigureDone (r : Request) (s : State) : Host.Outcome State Fault Refusal :=
  s.taken fun t => t.request clsConfigureDone r State.reqConfigureDone

/-- CONFIG_WINDOW_EXPIRY: the window's 30 s have passed (R212, R214). -/
def execConfigWindowExpiry (s : State) : Host.Outcome State Fault Refusal :=
  s.timed s.windowExpired fun t => t.closeConfig none

end Sys2Proof.Machine
end

