-- ==== Sys2Proof/Machine/RadioCommands.lean ====
section
/-! DEFINITION. The meanings of the resets and of the commands of the decoder, net monitor, encoder and link controller. -/

namespace Sys2Proof.Machine

/-- POWER_ON: every block starts in its power-on state, the straps and the four inputs sampled; the commands waiting stay
(R189). -/
def execPowerOn (straps : Byte) (dis cnl txinh cd : Bool) (s : State) : Host.Outcome State Fault Refusal :=
  .next { State.atPowerOn straps dis cnl txinh cd with pending := s.pending }

/-- The part held in its power-on state by RESET low: KEY released, ALARM off, AUX low, nothing placed (R189). -/
def State.heldInReset (pending : List Instr) : State :=
  let t := State.atPowerOn 0 true true false false
  { t with resetLow := true, pending := pending, port := { t.port with current := none, serial := 0 } }

/-- RESET_LOW: all state is discarded, and the part is held in its power-on state (R189). -/
def execResetLow (s : State) : Host.Outcome State Fault Refusal :=
  .next (State.heldInReset s.pending)

/-- RXS_STROBE: one symbol is taken, unless KEY is asserted (R1). -/
def execRxsStrobe (bit : Bool) (confidence : BitVec 3) (s : State) : Host.Outcome State Fault Refusal :=
  s.taken fun t =>
    if t.key then t else t.takeSymbol { bit := bit, conf := confidence, time := t.now }

/-- STROBE_GAP: no strobe for 100 ms with KEY released (R1). -/
def execStrobeGap (s : State) : Host.Outcome State Fault Refusal :=
  s.timed s.gapDue State.strobeLost

/-- LINKED_TIMEOUT: 1.5 s without a valid linked block (R17, R50). -/
def execLinkedTimeout (s : State) : Host.Outcome State Fault Refusal :=
  s.timed s.linkedDue State.linkedOver

/-- CLEAR_INTERVAL: the channel becomes clear (R51). -/
def execClearInterval (s : State) : Host.Outcome State Fault Refusal :=
  s.timed s.clearDue State.becomeClear

/-- PENDING_HALF_EXPIRY: the pending call half is discarded (R56). -/
def execPendingHalfExpiry (s : State) : Host.Outcome State Fault Refusal :=
  s.timed s.halfDue fun t => { t with nm := { t.nm with half := none } }

/-- OVERHEARD_LINK_TIMEOUT: the overheard-link record ends, its entries keeping their states (R58). -/
def execOverheardLinkTimeout (s : State) : Host.Outcome State Fault Refusal :=
  s.timed s.overheardDue fun t => { t with nm := { t.nm with overheard := none } }

/-- ENTRY_AGING: an entry CALLING or IN-SESSION for 120 s becomes QUIET (R59). -/
def execEntryAging (call : Nat) (s : State) : Host.Outcome State Fault Refusal :=
  s.timed (s.agingDue call) fun t => t.onStation call fun e => e.toQuiet t.now

/-- ALARM_PULSE: the pulsed ALARM output changes level (R184). -/
def execAlarmPulse (s : State) : Host.Outcome State Fault Refusal :=
  s.timed s.pulseDue State.pulse

/-- START_TRANSMISSION: a waiting BURST or FRAME starts (R20). -/
def execStartTransmission (s : State) : Host.Outcome State Fault Refusal :=
  s.timed s.frameStarts State.serveFrames

/-- LINK_SLOT_START: the LINK request at its slot start (R19, R20). -/
def execLinkSlotStart (s : State) : Host.Outcome State Fault Refusal :=
  s.timedOn (if s.linkSlotDue then s.enc.link else none) State.serveLink

/-- TRANSMISSION_COMPLETE: the end of the last symbol (R23). -/
def execTransmissionComplete (s : State) : Host.Outcome State Fault Refusal :=
  s.timedOn (if s.completeDue then s.enc.inFlight else none) State.complete

/-- CONSIDERATION: the 5 s consideration in IDLE (R68, R69). -/
def execConsideration (s : State) : Host.Outcome State Fault Refusal :=
  s.timed s.considerDue State.considerAgain

/-- BACKOFF_END: the tests are repeated, and CALLING is entered or IDLE returned to (R71). -/
def execBackoffEnd (s : State) : Host.Outcome State Fault Refusal :=
  s.timed s.backoffDue State.backoffOver

/-- CYCLE_BOUNDARY: the cycle ends and the next begins (R67). -/
def execCycleBoundary (s : State) : Host.Outcome State Fault Refusal :=
  s.timedOn (if s.boundaryDue then s.link.session else none) State.boundary

/-- SESSION_SLOT_READ: a session slot that has ended is read (R18). -/
def execSessionSlotRead (s : State) : Host.Outcome State Fault Refusal :=
  s.timed s.slotDue State.slotReadDue

end Sys2Proof.Machine
end

