-- ==== Sys2Proof/Machine/StatusCommands.lean ====
section
/-! DEFINITION. The meanings of the nineteen STATUS commands. -/

namespace Sys2Proof.Machine

/-- STATUS_LINK_CONTROLLER: item 1 (R66, R210). -/
def execStatusLinkController (r : Request) (s : State) : Host.Outcome State Fault Refusal :=
  s.taken fun t => t.request clsStatus r fun u q => u.answerStatus q u.itemLink

/-- STATUS_NET_MONITOR: item 2 (R51, R53, R54, R58, R210). -/
def execStatusNetMonitor (r : Request) (s : State) : Host.Outcome State Fault Refusal :=
  s.taken fun t => t.request clsStatus r fun u q => u.answerStatus q u.itemMonitor

/-- STATUS_STATION_ENTRY: item 3 (R64, R210). -/
def execStatusStationEntry (r : Request) (s : State) : Host.Outcome State Fault Refusal :=
  s.taken fun t => t.request clsStatus r fun u q => u.answerOne q (atPlace u.ranked) u.itemStation

/-- STATUS_RECEIVE_DECODER: item 4 (R15, R35, R210). -/
def execStatusReceiveDecoder (r : Request) (s : State) : Host.Outcome State Fault Refusal :=
  s.taken fun t => t.request clsStatus r fun u q => u.answerStatus q u.itemDecoder

/-- STATUS_OUTGOING_QUEUE: item 5 (R94, R210). -/
def execStatusOutgoingQueue (r : Request) (s : State) : Host.Outcome State Fault Refusal :=
  s.taken fun t => t.request clsStatus r fun u q => u.answerStatus q u.itemOutgoing

/-- STATUS_OUTGOING_RECORD: item 6 (R94, R210). -/
def execStatusOutgoingRecord (r : Request) (s : State) : Host.Outcome State Fault Refusal :=
  s.taken fun t => t.request clsStatus r fun u q => u.answerOne q u.outRec u.itemOutRec

/-- STATUS_INCOMING_LIST: item 7 (R110, R210). -/
def execStatusIncomingList (r : Request) (s : State) : Host.Outcome State Fault Refusal :=
  s.taken fun t => t.request clsStatus r fun u q => u.answerStatus q u.itemIncoming

/-- STATUS_INCOMING_RECORD: item 8 (R110, R210). -/
def execStatusIncomingRecord (r : Request) (s : State) : Host.Outcome State Fault Refusal :=
  s.taken fun t => t.request clsStatus r fun u q => u.answerOne q u.incRec u.itemIncRec

/-- STATUS_BULLETIN_RECEIVER: item 9 (R136, R210). -/
def execStatusBulletinReceiver (r : Request) (s : State) : Host.Outcome State Fault Refusal :=
  s.taken fun t => t.request clsStatus r fun u q => u.answerStatus q u.itemBulletins

/-- STATUS_BULLETIN_RECORD: item 10 (R111, R136, R210). -/
def execStatusBulletinRecord (r : Request) (s : State) : Host.Outcome State Fault Refusal :=
  s.taken fun t => t.request clsStatus r fun u q => u.answerOne q u.bulRec itemBulRec

/-- STATUS_TEXT_STORE: item 11 (R47, R210). -/
def execStatusTextStore (r : Request) (s : State) : Host.Outcome State Fault Refusal :=
  s.taken fun t => t.request clsStatus r fun u q => u.answerStatus q u.itemStore

/-- STATUS_CATCH_TALLY: item 12 (R156, R210). -/
def execStatusCatchTally (r : Request) (s : State) : Host.Outcome State Fault Refusal :=
  s.taken fun t => t.request clsStatus r fun u q => u.answerStatus q u.itemTally

/-- STATUS_HAUL_ENTRY: item 13 (R139, R210). -/
def execStatusHaulEntry (r : Request) (s : State) : Host.Outcome State Fault Refusal :=
  s.taken fun t => t.request clsStatus r fun u q => u.answerOne q (atPlace u.tally.hauls) itemHaul

/-- STATUS_TALLY_ROW: item 14 (R142, R210). -/
def execStatusTallyRow (r : Request) (s : State) : Host.Outcome State Fault Refusal :=
  s.taken fun t => t.request clsStatus r fun u q => u.answerOne q (atPlace u.tally.rows) itemRow

/-- STATUS_DISTRESS_UNIT: item 15 (R187, R210). -/
def execStatusDistressUnit (r : Request) (s : State) : Host.Outcome State Fault Refusal :=
  s.taken fun t => t.request clsStatus r fun u q => u.answerStatus q u.itemDistress

/-- STATUS_DISTRESS_ENTRY: item 16 (R169, R210). -/
def execStatusDistressEntry (r : Request) (s : State) : Host.Outcome State Fault Refusal :=
  s.taken fun t => t.request clsStatus r fun u q => u.answerOne q (atPlace u.dis.list) u.itemEntry

/-- STATUS_LINES: item 17 (R192, R194, R210). -/
def execStatusLines (r : Request) (s : State) : Host.Outcome State Fault Refusal :=
  s.taken fun t => t.request clsStatus r fun u q => u.answerStatus q u.itemLines

/-- STATUS_CLOCK: item 18 (R199, R210). -/
def execStatusClock (r : Request) (s : State) : Host.Outcome State Fault Refusal :=
  s.taken fun t => t.request clsStatus r fun u q => u.answerStatus q u.itemClock

/-- STATUS_BUS_PORT: item 19 (R215, R210). -/
def execStatusBusPort (r : Request) (s : State) : Host.Outcome State Fault Refusal :=
  s.taken fun t => t.request clsStatus r fun u q => u.answerStatus q u.itemPort

end Sys2Proof.Machine
end

