-- ==== Sys2Proof/Machine/TimerCommands.lean ====
section
/-! DEFINITION. The meanings of the commands of the queues', receivers', tally's, distress unit's, line unit's and clock's own timers. -/

namespace Sys2Proof.Machine

/-- NEXT_ELIGIBLE_REACHED: a record is reported eligible (R98). -/
def execNextEligibleReached (ref : Nat) (s : State) : Host.Outcome State Fault Refusal :=
  s.timed (s.eligibleDue ref) fun t => (t.onOut ref fun r => { r with told := true }).consider

/-- PARTIAL_EXPIRY: a PARTIAL record is discarded 6 h after its last change (R107). -/
def execPartialExpiry (ref : Nat) (s : State) : Host.Outcome State Fault Refusal :=
  s.timedOn (s.expiredInc ref) fun t r => t.discardPartial r 1

/-- HEARD_LIST_EXPIRY: entries leave the heard list 72 h after last heard (R117). -/
def execHeardListExpiry (s : State) : Host.Outcome State Fault Refusal :=
  s.timed s.heardDue State.forgetHeard

/-- WINDOW_BOUNDARY: the clock reaches a window's guard start, start or end (R130). -/
def execWindowBoundary (window : Nat) (s : State) : Host.Outcome State Fault Refusal :=
  s.timed (s.windowDue window) fun t => t.crossWindow window

/-- GRACE_EXPIRY: a quiet window's grace runs out (R133). -/
def execGraceExpiry (window : Nat) (s : State) : Host.Outcome State Fault Refusal :=
  s.timed (s.graceDue window) fun t => t.graceOver window

/-- CLOSE_INSTANT: the armed hour close asks for a close (R145). -/
def execCloseInstant (s : State) : Host.Outcome State Fault Refusal :=
  s.timed s.hourDue.isSome State.evaluateHour

/-- CLOSE_RETRY: a pending close is tried again (R150). -/
def execCloseRetry (s : State) : Host.Outcome State Fault Refusal :=
  s.timedOn s.retryDue State.retryClose

/-- REPORT_OVERDUE: a report reaches its deadline undelivered (R155). -/
def execReportOverdue (serial : Nat) (s : State) : Host.Outcome State Fault Refusal :=
  s.timedOn (s.overdueWatch serial) State.overdue

/-- BURST_TIMER_EXPIRY: the next own burst is placed (R162). -/
def execBurstTimerExpiry (s : State) : Host.Outcome State Fault Refusal :=
  s.timed (s.reached s.dis.burstAt) State.burstOver

/-- DISTRESS_HELD: the hold timer of a held burst runs out (R165). -/
def execDistressHeld (s : State) : Host.Outcome State Fault Refusal :=
  s.timed s.heldDue State.holdOver

/-- CANCEL_TIMER_EXPIRY: the cancel was not confirmed (R167). -/
def execCancelTimerExpiry (s : State) : Host.Outcome State Fault Refusal :=
  s.timed s.cancelDue State.cancelOver

/-- CANCEL_GAP_EXPIRY: the next DCANCEL joins the frame queue (R168). -/
def execCancelGapExpiry (s : State) : Host.Outcome State Fault Refusal :=
  s.timed (s.reached s.dis.gapAt) State.gapOver

/-- WATCH_EXPIRY: an entry's watch expires (R177). -/
def execWatchExpiry (origin : Nat) (s : State) : Host.Outcome State Fault Refusal :=
  s.timedOn (s.entryWhen origin (·.watchDue s.now)) State.watchOver

/-- HOLD_OFF_EXPIRY: an entry's relay becomes due (R179). -/
def execHoldOffExpiry (origin : Nat) (s : State) : Host.Outcome State Fault Refusal :=
  s.timedOn (s.entryWhen origin (·.holdOffDue s.now)) State.holdOffOver

/-- ALARM_REPEAT: the REPEAT notice (R185). -/
def execAlarmRepeat (s : State) : Host.Outcome State Fault Refusal :=
  s.timed (s.reached s.dis.repeatAt) State.repeatOver

/-- ENTRY_REMOVAL: a finished entry leaves the distress list (R176). -/
def execEntryRemoval (origin : Nat) (s : State) : Host.Outcome State Fault Refusal :=
  s.timedOn (s.entryWhen origin (·.removable s.now)) fun t e => (t.dropEntry e.origin).refreshAlarm

/-- SILENCE_END: silence ends; the link controller's considerations go on as R68 states (R181, R182). -/
def execSilenceEnd (s : State) : Host.Outcome State Fault Refusal :=
  s.timed s.silenceDue fun t => { t with dis := { t.dis with lastSilence := none } }

/-- RAW_LEVEL_CHANGE: a raw input pin changes level (R190). -/
def execRawLevelChange (line : Line) (high : Bool) (s : State) : Host.Outcome State Fault Refusal :=
  s.taken fun t =>
    { t with lines := t.lines.setInput line ((t.lines.input line).raw (rawAsserted line high) t.now) }

/-- ACCEPTED_CHANGE: a candidate has stood for the line's filter time (R190, R192). -/
def execAcceptedChange (line : Line) (s : State) : Host.Outcome State Fault Refusal :=
  s.timed (s.lineDue line) fun t => t.acceptLine line

/-- SYNC_LAPSE: the clock is free-running from here (R197). -/
def execSyncLapse (s : State) : Host.Outcome State Fault Refusal :=
  s.timed s.lapseDue fun t => { t with clock := { t.clock with synced := false } }

end Sys2Proof.Machine
end

