-- ==== Sys2Proof/Machine/Dispatch.lean ====
section
/-! DEFINITION. The meaning of every command: one arm, one direct call, for each constructor of `Instr`. -/

namespace Sys2Proof.Machine

def exec (i : Instr) (s : State) : Host.Outcome State Fault Refusal :=
  match i with
  | .powerOn straps dis cnl txinh cd => Sys2Proof.Machine.execPowerOn straps dis cnl txinh cd s
  | .linkRestart r => Sys2Proof.Machine.execLinkRestart r s
  | .rxsStrobe bit confidence => Sys2Proof.Machine.execRxsStrobe bit confidence s
  | .strobeGap => Sys2Proof.Machine.execStrobeGap s
  | .linkedTimeout => Sys2Proof.Machine.execLinkedTimeout s
  | .clearInterval => Sys2Proof.Machine.execClearInterval s
  | .pendingHalfExpiry => Sys2Proof.Machine.execPendingHalfExpiry s
  | .overheardLinkTimeout => Sys2Proof.Machine.execOverheardLinkTimeout s
  | .entryAging call => Sys2Proof.Machine.execEntryAging call s
  | .alarmPulse => Sys2Proof.Machine.execAlarmPulse s
  | .startTransmission => Sys2Proof.Machine.execStartTransmission s
  | .linkSlotStart => Sys2Proof.Machine.execLinkSlotStart s
  | .transmissionComplete => Sys2Proof.Machine.execTransmissionComplete s
  | .consideration => Sys2Proof.Machine.execConsideration s
  | .backoffEnd => Sys2Proof.Machine.execBackoffEnd s
  | .cycleBoundary => Sys2Proof.Machine.execCycleBoundary s
  | .sessionSlotRead => Sys2Proof.Machine.execSessionSlotRead s
  | .nextEligibleReached ref => Sys2Proof.Machine.execNextEligibleReached ref s
  | .partialExpiry ref => Sys2Proof.Machine.execPartialExpiry ref s
  | .heardListExpiry => Sys2Proof.Machine.execHeardListExpiry s
  | .windowBoundary window => Sys2Proof.Machine.execWindowBoundary window s
  | .graceExpiry window => Sys2Proof.Machine.execGraceExpiry window s
  | .closeInstant => Sys2Proof.Machine.execCloseInstant s
  | .closeRetry => Sys2Proof.Machine.execCloseRetry s
  | .reportOverdue serial => Sys2Proof.Machine.execReportOverdue serial s
  | .burstTimerExpiry => Sys2Proof.Machine.execBurstTimerExpiry s
  | .distressHeld => Sys2Proof.Machine.execDistressHeld s
  | .cancelTimerExpiry => Sys2Proof.Machine.execCancelTimerExpiry s
  | .cancelGapExpiry => Sys2Proof.Machine.execCancelGapExpiry s
  | .watchExpiry origin => Sys2Proof.Machine.execWatchExpiry origin s
  | .holdOffExpiry origin => Sys2Proof.Machine.execHoldOffExpiry origin s
  | .alarmRepeat => Sys2Proof.Machine.execAlarmRepeat s
  | .entryRemoval origin => Sys2Proof.Machine.execEntryRemoval origin s
  | .silenceEnd => Sys2Proof.Machine.execSilenceEnd s
  | .rawLevelChange line high => Sys2Proof.Machine.execRawLevelChange line high s
  | .acceptedChange line => Sys2Proof.Machine.execAcceptedChange line s
  | .time src day seconds => Sys2Proof.Machine.execTime src day seconds s
  | .syncLapse => Sys2Proof.Machine.execSyncLapse s
  | .position src latitude longitude => Sys2Proof.Machine.execPosition src latitude longitude s
  | .malformedFrame f => Sys2Proof.Machine.execMalformedFrame f s
  | .assemblyLead cls r count => Sys2Proof.Machine.execAssemblyLead cls r count s
  | .requestContinuation r index => Sys2Proof.Machine.execRequestContinuation r index s
  | .assemblyTimeout src => Sys2Proof.Machine.execAssemblyTimeout src s
  | .raiseDistress r => Sys2Proof.Machine.execRaiseDistress r s
  | .cancelDistress r => Sys2Proof.Machine.execCancelDistress r s
  | .acknowledgeAlert r => Sys2Proof.Machine.execAcknowledgeAlert r s
  | .sendMessage r => Sys2Proof.Machine.execSendMessage r s
  | .text src sequence bytes => Sys2Proof.Machine.execText src sequence bytes s
  | .intakeTimeout => Sys2Proof.Machine.execIntakeTimeout s
  | .cancelMessage r => Sys2Proof.Machine.execCancelMessage r s
  | .readMessage r => Sys2Proof.Machine.execReadMessage r s
  | .readBulletin r => Sys2Proof.Machine.execReadBulletin r s
  | .readoutText => Sys2Proof.Machine.execReadoutText s
  | .endOfText => Sys2Proof.Machine.execEndOfText s
  | .frameCarried => Sys2Proof.Machine.execFrameCarried s
  | .sendingStops => Sys2Proof.Machine.execSendingStops s
  | .sendingResumes => Sys2Proof.Machine.execSendingResumes s
  | .readoutStall => Sys2Proof.Machine.execReadoutStall s
  | .haulEntry r => Sys2Proof.Machine.execHaulEntry r s
  | .closeReport r => Sys2Proof.Machine.execCloseReport r s
  | .setSelection r => Sys2Proof.Machine.execSetSelection r s
  | .setAux r => Sys2Proof.Machine.execSetAux r s
  | .configureOwnCall r => Sys2Proof.Machine.execConfigureOwnCall r s
  | .configurePortOffice r => Sys2Proof.Machine.execConfigurePortOffice r s
  | .configureBridgeStations r => Sys2Proof.Machine.execConfigureBridgeStations r s
  | .configureQuotas r => Sys2Proof.Machine.execConfigureQuotas r s
  | .configureRelayMode r => Sys2Proof.Machine.execConfigureRelayMode r s
  | .configureBusyRule r => Sys2Proof.Machine.execConfigureBusyRule r s
  | .configureCdFilterTime r => Sys2Proof.Machine.execConfigureCdFilterTime r s
  | .configureScheduleWindow r => Sys2Proof.Machine.execConfigureScheduleWindow r s
  | .configureClearSchedule r => Sys2Proof.Machine.execConfigureClearSchedule r s
  | .configureInitialSelection r => Sys2Proof.Machine.execConfigureInitialSelection r s
  | .configureOriginFilter r => Sys2Proof.Machine.execConfigureOriginFilter r s
  | .configureCloseHour r => Sys2Proof.Machine.execConfigureCloseHour r s
  | .configureReportDeadline r => Sys2Proof.Machine.execConfigureReportDeadline r s
  | .configureNextSerial r => Sys2Proof.Machine.execConfigureNextSerial r s
  | .configureWatchInterval r => Sys2Proof.Machine.execConfigureWatchInterval r s
  | .configureCallThreshold r => Sys2Proof.Machine.execConfigureCallThreshold r s
  | .configureGoodLimit r => Sys2Proof.Machine.execConfigureGoodLimit r s
  | .configurePoorLimit r => Sys2Proof.Machine.execConfigurePoorLimit r s
  | .configurePageLimit r => Sys2Proof.Machine.execConfigurePageLimit r s
  | .configureAuxDistressMode r => Sys2Proof.Machine.execConfigureAuxDistressMode r s
  | .configureDone r => Sys2Proof.Machine.execConfigureDone r s
  | .configWindowExpiry => Sys2Proof.Machine.execConfigWindowExpiry s
  | .statusLinkController r => Sys2Proof.Machine.execStatusLinkController r s
  | .statusNetMonitor r => Sys2Proof.Machine.execStatusNetMonitor r s
  | .statusStationEntry r => Sys2Proof.Machine.execStatusStationEntry r s
  | .statusReceiveDecoder r => Sys2Proof.Machine.execStatusReceiveDecoder r s
  | .statusOutgoingQueue r => Sys2Proof.Machine.execStatusOutgoingQueue r s
  | .statusOutgoingRecord r => Sys2Proof.Machine.execStatusOutgoingRecord r s
  | .statusIncomingList r => Sys2Proof.Machine.execStatusIncomingList r s
  | .statusIncomingRecord r => Sys2Proof.Machine.execStatusIncomingRecord r s
  | .statusBulletinReceiver r => Sys2Proof.Machine.execStatusBulletinReceiver r s
  | .statusBulletinRecord r => Sys2Proof.Machine.execStatusBulletinRecord r s
  | .statusTextStore r => Sys2Proof.Machine.execStatusTextStore r s
  | .statusCatchTally r => Sys2Proof.Machine.execStatusCatchTally r s
  | .statusHaulEntry r => Sys2Proof.Machine.execStatusHaulEntry r s
  | .statusTallyRow r => Sys2Proof.Machine.execStatusTallyRow r s
  | .statusDistressUnit r => Sys2Proof.Machine.execStatusDistressUnit r s
  | .statusDistressEntry r => Sys2Proof.Machine.execStatusDistressEntry r s
  | .statusLines r => Sys2Proof.Machine.execStatusLines r s
  | .statusClock r => Sys2Proof.Machine.execStatusClock r s
  | .statusBusPort r => Sys2Proof.Machine.execStatusBusPort r s
  | .resetLow => Sys2Proof.Machine.execResetLow s

end Sys2Proof.Machine
end

