-- ==== Sys2Proof/Safety.lean ====
section
/-! DEFINITION. The terms statements use: when the part takes a frame or a request, which command each request class and
item is, what a strobe completes, and the invariants of the manual's prose (R26, R37, R142, R184, R214). -/

namespace Sys2Proof.Machine

/-- The part takes a frame from this source: RESET is not held low, and the source is not the part's own number
(R189, R200). -/
def State.hears (s : State) (src : Byte) : Prop := s.resetLow = false ∧ src ≠ s.port.station

/-- A whole request reaches the port with no assembly of its source open (R202). -/
def State.takes (s : State) (r : Request) : Prop := s.hears r.src ∧ s.port.assembly r.src = none

/-- A source may make bridge-only requests: the list is empty or holds it (R204). -/
def State.bridge (s : State) (src : Byte) : Prop := s.port.bridge = [] ∨ src ∈ s.port.bridge

/-- The configuration window is open (R212). -/
def State.windowOpen (s : State) : Prop := s.port.window.isSome = true

/-- The command of each request class of its own (R201). -/
def requestRows : List (Byte × (Request → Instr)) :=
  [(64, .raiseDistress), (65, .cancelDistress), (66, .acknowledgeAlert), (72, .linkRestart), (81, .configureDone),
    (96, .sendMessage), (98, .cancelMessage), (104, .readBulletin), (105, .readMessage), (112, .haulEntry),
    (113, .closeReport), (120, .setSelection), (121, .setAux)]

/-- The command of each CONFIGURE item (R213). -/
def configureRows : List (Byte × (Request → Instr)) :=
  [(1, .configureOwnCall), (2, .configurePortOffice), (3, .configureBridgeStations), (4, .configureQuotas),
    (5, .configureRelayMode), (6, .configureBusyRule), (7, .configureCdFilterTime), (8, .configureScheduleWindow),
    (9, .configureClearSchedule), (10, .configureInitialSelection), (11, .configureOriginFilter),
    (12, .configureCloseHour), (13, .configureReportDeadline), (14, .configureNextSerial),
    (15, .configureWatchInterval), (16, .configureCallThreshold), (17, .configureGoodLimit), (18, .configurePoorLimit),
    (19, .configurePageLimit), (20, .configureAuxDistressMode)]

/-- The command of each STATUS item (R210). -/
def statusRows : List (Byte × (Request → Instr)) :=
  [(1, .statusLinkController), (2, .statusNetMonitor), (3, .statusStationEntry), (4, .statusReceiveDecoder),
    (5, .statusOutgoingQueue), (6, .statusOutgoingRecord), (7, .statusIncomingList), (8, .statusIncomingRecord),
    (9, .statusBulletinReceiver), (10, .statusBulletinRecord), (11, .statusTextStore), (12, .statusCatchTally),
    (13, .statusHaulEntry), (14, .statusTallyRow), (15, .statusDistressUnit), (16, .statusDistressEntry),
    (17, .statusLines), (18, .statusClock), (19, .statusBusPort)]

/-! ### What a strobe completes -/

/-- The intake window with one symbol more, taken now (R1). -/
def State.windowWith (s : State) (bit : Bool) (conf : BitVec 3) : List Sym :=
  lastWindow (s.dec.window ++ [{ bit := bit, conf := conf, time := s.now }])

/-- The symbol is taken outside a spread stream and completes a valid block in the window, from `start` on, that is no
block of the part's own session (R1, R17, R18). -/
def State.completesBlock (s : State) (bit : Bool) (conf : BitVec 3) (b : Block) (start : Nat) : Prop :=
  s.resetLow = false ∧ s.enc.inFlight = none ∧ s.dec.sync ≠ .spreadSync ∧
    readBlock (s.windowWith bit conf) = some b ∧ ((s.windowWith bit conf).head?.map (·.time)) = some start ∧
    s.ownAlign start = false

/-- The symbol completes a valid call half whose other half is pending from the cycle before, at its alignment: a pair of
caller, called station, class digit and announced count (R56). -/
def State.completesPair (s : State) (bit : Bool) (conf : BitVec 3) (caller called digit announced : Nat) : Prop :=
  ∃ (b : Block) (start : Nat) (p : CallHalf), s.completesBlock bit conf b start ∧ s.nm.half = some p ∧
    nearly start (p.start + 1200) = true ∧
    ((b.kind = .callB ∧ p.isA = true ∧ readNumber (b.payload.map some) = some caller ∧ p.call = called ∧
        p.digit = digit ∧ b.digit = announced) ∨
      (b.kind = .callA ∧ p.isA = false ∧ p.call = caller ∧ readNumber (b.payload.map some) = some called ∧
        b.digit = digit ∧ p.digit = announced))

/-! ### Invariants -/

/-- ALARM shows what the distress list calls for (R184). -/
def State.alarmRight (s : State) : Prop := s.dis.alarm = alarmOf s.dis.list

/-- The entries of a haul list that belong to a row. -/
def haulsOf (hauls : List Haul) (species area : List Nat) : List Haul :=
  hauls.filter fun h => h.species = species && h.area = area

/-- The tally table is the haul list summed: one haul for each number and species, one row for each species and area
that a haul has, with the sum and the count of its hauls (R139, R142). -/
def CatchTally.summed (t : CatchTally) : Prop :=
  (t.hauls.map fun h => (h.number, h.species)).Nodup ∧
  (t.rows.map fun r => (r.species, r.area)).Nodup ∧
  (∀ h ∈ t.hauls, ∃ r ∈ t.rows, r.species = h.species ∧ r.area = h.area) ∧
  (∀ r ∈ t.rows, 1 ≤ r.count ∧ r.count = (haulsOf t.hauls r.species r.area).length ∧
    r.sum = ((haulsOf t.hauls r.species r.area).map (·.weight)).sum)

/-- The tally holds at most 96 hauls and 48 rows (R139, R142). -/
def CatchTally.bounded (t : CatchTally) : Prop := t.hauls.length ≤ 96 ∧ t.rows.length ≤ 48

/-- An accumulator in its range: 4096 at most, and never below 15 (R26). -/
def qualityInRange (q : Nat) : Prop := 15 ≤ q ∧ q ≤ 4096

/-- A frame in progress has at least its type character, and its scores are 16 at most (R8, R15). -/
def FrameState.scored : FrameState → Prop
  | .between => True
  | .bulletin n sum _ => 1 ≤ n ∧ sum ≤ 16 * n
  | .distress _ n sum _ => 1 ≤ n ∧ sum ≤ 16 * n

/-- Every quality accumulator lies in its range (R26). -/
def State.qualityRight (s : State) : Prop :=
  s.dec.stream.frame.scored ∧ (∀ q, s.dec.acc = some q → qualityInRange q)
    ∧ ∀ e ∈ s.nm.table, qualityInRange e.q

/-- The class of the record that holds a chain (R39). -/
def RecKey.cls : RecKey → StoreClass
  | .out _ => .outgoing
  | .inc _ => .incoming
  | .bul _ => .bulletin

/-- The text store's laws: one chain a record, in its class; no class above its quota; the three quotas 496 in all; at
most 16 pages charged to the reserve, and those only with distress-class text (R37, R39, R46). -/
def TextStore.lawful (t : TextStore) : Prop :=
  (t.chains.map (·.key)).Nodup ∧ (∀ c ∈ t.chains, c.cls = c.key.cls) ∧
  (∀ cls, t.quotaCount cls ≤ t.quota.get cls) ∧
  t.quota.bulletin + t.quota.incoming + t.quota.outgoing = 496 ∧ t.reserveInUse ≤ 16 ∧
  ∀ c ∈ t.chains, true ∈ c.charges → c.distress = true

/-- The text store keeps its laws, under the default quotas while the configuration window is open (R46). -/
def State.storeRight (s : State) : Prop :=
  s.store.lawful ∧ (s.windowOpen → s.store.quota = defaultQuotas)

/-- Without an own call the encoder is empty, and there is none while the configuration window is open (R19, R212, R214). -/
def State.listenOnly (s : State) : Prop :=
  (s.windowOpen → s.cfg.ownCall = none) ∧
  (s.cfg.ownCall = none → s.enc.inFlight = none ∧ s.enc.burst = none ∧ s.enc.frame = none ∧ s.enc.link = none)

/-- What the configuration window leaves in force (R214): the configuration, the bridge station list, the quotas, the own
station number, the origin filter and the schedule windows as configured. -/
def State.inForce (s : State) : Settings × List Byte × PerClass × Byte × OriginFilter × List Window :=
  (s.cfg, s.port.bridge, s.store.quota, s.port.station, s.bul.origins, s.bul.windows.map (·.win))

end Sys2Proof.Machine

namespace Sys2Proof

/-- A command of the two that end the configuration: POWER_ON and RESET_LOW (R189). -/
def Instr.isReset : Instr → Bool
  | .powerOn _ _ _ _ _ => true
  | .resetLow => true
  | _ => false

end Sys2Proof
end

