-- ==== Sys2Proof/Certificates/Slice0/Obligations.lean ====
section
/-! DEFINITION. The statements for the provers, each a proposition about the model's commands. A statement that rests on
a choice of the model names the log entry in its docstring. -/

open Sys2Proof Sys2Proof.Machine

/-! ### Steps and resets -/

/-- One step of the part is the meaning of the command at the front of its queue, on the state with the queue's rest.
The queue is the model's own field. -/
def Obligations.StepRunsFrontCommand : Prop :=
  ∀ (c : Instr) (rest : List Instr) (s : State),
    step { s with pending := c :: rest } = exec c { s with pending := rest }

/-- On an empty queue the part holds still while RESET is low; otherwise its own command that is due joins the queue, or
else one millisecond of its timebase passes. DESIGN CHOICE: log entry 1. -/
def Obligations.IdleStepTakesDueCommandOrOneMillisecond : Prop :=
  ∀ s : State, s.pending = [] →
    (s.resetLow = true → step s = .next s) ∧
    (s.resetLow = false → ∀ c, s.nextDue = some c → step s = .next { s with pending := [c] }) ∧
    (s.resetLow = false → s.nextDue = none → step s = .next { s with now := s.now + 1 })

/-- At power-on all 512 pages of the text store are free and no chain exists. -/
def Obligations.PowerOnEmptiesTextStore : Prop :=
  ∀ (straps : Byte) (dis cnl txinh cd : Bool) (s t : State), exec (.powerOn straps dis cnl txinh cd) s = .next t →
    t.store.chains = [] ∧ t.store.freePages = 512 ∧ t.store.reserveInUse = 0 ∧
    (∀ cls, t.store.quotaCount cls = 0 ∧ t.store.reserveCount cls = 0 ∧ t.store.full.get cls = 0) ∧
    t.store.quota = { bulletin := 192, incoming := 128, outgoing := 176 } ∧ t.store.replacedQuotas = false ∧
    t.q.out = [] ∧ t.q.inc = [] ∧ t.bul.recs = [] ∧ t.tally.hauls = [] ∧ t.tally.rows = []

/-- The state after reset of every block, where the manual gives the values: decoder, encoder, net monitor, link
controller, queues and transfers, bulletin receiver, catch tally, distress unit, text store, line unit, clock, port and
the values in force. -/
def Obligations.ResetStateOfEveryBlock : Prop :=
  let s := State.reset
  (s.dec.sync = .hunting ∧ s.dec.window = [] ∧ s.dec.stream.delay = [] ∧ s.dec.stream.erasureRun = 0 ∧
    s.dec.stream.missedRun = 0 ∧ s.dec.acc = none ∧ s.dec.synced = 0 ∧ s.dec.losses = 0 ∧ s.dec.slips = 0 ∧
    s.dec.missed = 0 ∧ s.dec.unknown = 0) ∧
  (s.enc.inFlight = none ∧ s.enc.burst = none ∧ s.enc.frame = none ∧ s.enc.link = none) ∧
  (s.nm.table = [] ∧ s.nm.half = none ∧ s.nm.overheard = none ∧ s.nm.clear = false) ∧
  (s.link.phase = .idle ∧ s.link.attempt = none ∧ s.link.session = none ∧ s.link.pendingBreak = none ∧
    s.link.counts = LinkCounts.zero) ∧
  (s.q.outRef = 0 ∧ s.q.incRef = 0 ∧ s.port.intake = none ∧ s.port.readout = none) ∧
  (s.bul.heardList = [] ∧ s.bul.index = 0 ∧ s.bul.windows = [] ∧ s.bul.subjects = BitVec.allOnes 26 ∧
    s.bul.areas = BitVec.allOnes 26 ∧ s.bul.origins = .any ∧ s.guardOn = false) ∧
  (s.tally.serial = 1 ∧ s.tally.opened = none ∧ s.tally.pending = none ∧ s.tally.watch = [] ∧
    s.tally.closeDay = none ∧ s.tally.closes = 0 ∧ s.tally.late = 0 ∧ s.tally.deferrals = 0) ∧
  (s.dis.own = .none ∧ s.dis.counter = 0 ∧ s.dis.serial = none ∧ s.dis.list = [] ∧ s.dis.queue = [] ∧
    s.silence = false ∧ s.dis.repeatAt = none) ∧
  (s.store.chains = [] ∧ s.store.quota = { bulletin := 192, incoming := 128, outgoing := 176 } ∧
    s.store.full = { bulletin := 0, incoming := 0, outgoing := 0 } ∧ s.store.replacedQuotas = false) ∧
  (s.lines.aux = List.replicate 4 AuxLevel.low ∧
    ∀ line, (s.lines.input line).candidate = none ∧ (s.lines.input line).changes = 0) ∧
  (s.clock.ref = none ∧ s.clock.synced = false ∧ s.clock.position = none) ∧
  (s.port.window = some 0 ∧ s.port.bridge = [] ∧ s.cfg.ownCall = none ∧ s.cfg.portOffice = none ∧
    s.cfg.relayMode = .bridge ∧ s.cfg.busyRule = .any ∧ s.cfg.cdFilter = 50 ∧ s.cfg.closeHour = 18 ∧
    s.cfg.deadline = 8 ∧ s.cfg.watchInterval = 180 ∧ s.cfg.threshold = 30 ∧ s.cfg.goodLimit = 40 ∧
    s.cfg.poorLimit = 100 ∧ s.cfg.pageLimit = 16 ∧ s.cfg.auxModes = List.replicate 4 AuxMode.hold)

/-- POWER_ON starts every block anew, whatever stood before; the straps are taken, 255 as 254, the four inputs are
sampled, and the timebase starts from zero. The commands waiting stay: the model's choice, log entry 6.

RESET held low discards all state and holds the part in its power-on state: KEY released, TXD low, ALARM off, AUX
low, nothing on the bus; and while it is low no command but POWER_ON and RESET_LOW changes anything (log entry 7). -/
def Obligations.PowerOnAndResetLowStartAnew : Prop :=
  (∀ (straps : Byte) (dis cnl txinh cd : Bool) (s : State), ∃ t,
     exec (.powerOn straps dis cnl txinh cd) s = .next t ∧ t.pending = s.pending ∧
     (∀ u : State, u.pending = s.pending → exec (.powerOn straps dis cnl txinh cd) u = .next t) ∧
     t.now = 0 ∧ t.resetLow = false ∧ t.port.station = (if straps = 255 then 254 else straps) ∧
     t.port.adjusted = decide (straps = 255) ∧
     t.lines.dis = { asserted := !dis, candidate := none, changes := 0 } ∧
     t.lines.cnl = { asserted := !cnl, candidate := none, changes := 0 } ∧
     t.lines.txinh = { asserted := txinh, candidate := none, changes := 0 } ∧
     t.lines.cd = { asserted := cd, candidate := none, changes := 0 } ∧
     t.key = false ∧ t.txd = false ∧ t.dis.alarm = .off ∧ t.dis.alarmOn = false ∧
     ∀ i, i < 4 → t.auxDriven i = .low) ∧
  ((∀ s : State, ∃ t, exec .resetLow s = .next t ∧ t.pending = s.pending ∧ t.resetLow = true ∧ t.key = false ∧
     t.txd = false ∧ t.dis.alarmOn = false ∧ (∀ i, i < 4 → t.auxDriven i = .low) ∧ t.port.current = none ∧
     t.port.waiting = [] ∧ ∀ u : State, u.pending = s.pending → exec .resetLow u = .next t) ∧
   ∀ (c : Instr) (s : State), c.isReset = false → s.resetLow = true → exec c s = .next s)

/-! ### Characters, blocks and quality figures -/

/-- A linked block as the encoder sends it is read back: for seven characters that make a block, whatever the strobes'
confidences and moments, the receiver finds that block with its digit and payload.

A linked reply with an allowed value is read back as sent. -/
def Obligations.LinkedBlocksAndRepliesReadBack : Prop :=
  (∀ (kind : BlockType) (digit : Nat) (payload : List Nat) (syms : List Sym),
     (if kind = .callA ∨ kind = .callB then digit ≤ 9 else digit ≤ 7) →
     payload.length = 5 → (∀ i ∈ payload, i < 120) →
     syms.map (·.bit) = ((blockSlots ([kind.index, cDigit digit] ++ payload)).map codeword).flatten →
     readBlock syms = some { kind := kind, digit := digit, payload := payload }) ∧
  (∀ (r : Reply) (syms : List Sym), valueAllowed r.kind r.value = true →
     syms.map (·.bit) = (r.chars.map codeword).flatten → readReply syms = some r)

/-- What the part's transmissions take: a burst 7740 ms, a relay 8460 ms, a DCANCEL 4860 ms, a block 720 ms, a reply
180 ms; and none carries a marker pair.

A relay's fields are 27 characters and a DCANCEL's 7. That the 27 of R14 and R180 stand, and not the 28 that the fields
they list come to, is the model's choice: log entry 51. -/
def Obligations.TransmissionsTakeTheirTimes : Prop :=
  (∀ r : FrameReq, r.fields.length = r.kind.type.fields →
    Config.charMs * r.slots.length =
      (match r.kind with
        | .burst => 7740
        | .relay => 8460
        | .dcancel => 4860) ∧
    r.slots.length = 2 * (12 + (r.fields.length + 4) + 4)) ∧
  (∀ (e : DistressEntry) (own : Nat), (∀ p, e.position = some p → p.length = 11) →
    (e.relayFields own).length = 27) ∧
  (∀ (s : State) (own : Nat), (s.cancelFields own).length = 7) ∧
  ∀ r : LinkReq, (r.kind = .reply → r.chars.length = 2 → Config.charMs * r.slots.length = 180) ∧
    (r.kind ≠ .reply → r.chars.length = 7 → Config.charMs * r.slots.length = 720)

/-- The update of a quality accumulator keeps it in 15–4096, holds 4096 under samples of 16, raises every lower value
with one, and holds 15 under samples of 0.

The figures computed from scores lie in their ranges: percent and frame percent 0–100, frame sample 0–16, erasure
ratio 0–1000 with 0 for no characters, hold-off 20–91 seconds. -/
def Obligations.QualityArithmeticKeepsItsRanges : Prop :=
  (∀ q s : Nat, s ≤ 16 →
     (q ≤ 4096 → feedQ q s ≤ 4096) ∧ (15 ≤ q → 15 ≤ feedQ q s) ∧ (1 ≤ s → 16 ≤ feedQ q s) ∧
     (q < 4096 → q < feedQ q 16) ∧ feedQ 4096 16 = 4096 ∧ feedQ 15 0 = 15) ∧
  ((∀ q, q ≤ 4096 → percentOf q ≤ 100) ∧ percentOf 1208 = 29 ∧ percentOf 1209 = 30 ∧ percentOf 2048 = 50 ∧
   (∀ n sum, 1 ≤ n → sum ≤ 16 * n → framePercent n sum ≤ 100 ∧ frameSample n sum ≤ 16) ∧
   (∀ c e, e ≤ c → erasureRatio c e ≤ 1000) ∧ (∀ e, erasureRatio 0 e = 0) ∧
   (∀ pf own, pf ≤ 100 → 20 ≤ holdOffOf pf own ∧ holdOffOf pf own ≤ 91) ∧
   holdOffOf 100 40000 = 20 ∧ holdOffOf 0 40007 = 91)

/-! ### The receive decoder -/

/-- A strobe that comes while KEY is asserted changes nothing. Otherwise it is one symbol more: in HUNTING with the
window not yet full it joins the window, and the rest of the part stays as it was. Only the generator's step is a free
value (log entry 3).

The character decided from two copies, and its score: 16 for two that agree, 12 for one valid, 6 for two that differ (the
surer one, or the first), and an erasure with 0 for none.

In a spread stream every ninth symbol completes a slot. Phasing pairs are skipped, and the twelfth loses sync; the first
pair that is none is pair 0. From pair 4 on the second slot decides the character four pairs before, which feeds the
accumulator and the runs. Between frames BEGIN and the four types start a frame, IDLE and END are fill, and anything else
is an unknown frame, counted once a run. A bulletin's header and body and a distress frame's fields are collected and
handed to their owners with their score sums, a distress frame with its last field, a bulletin at END. The 32nd erasure of
a run loses sync before it is handled: the frame in progress is cut short without it (log entry 13, DEDUCED). Four IDLE
end the stream.

After every 64th pair the marker is searched for once three slots have been read: on time, one slot early or late (a slip
counted), or missed (counted); the second missed in a row loses sync.

That the header is seven characters whatever they are, BEGIN and END included, and what ends a run of unknown frames, are
log entries 11 and 12 (DEDUCED). -/
def Obligations.StrobeIsTakenUnlessKeyed : Prop :=
  (∀ (bit : Bool) (conf : BitVec 3) (s : State), s.resetLow = false →
    (s.enc.inFlight ≠ none → exec (.rxsStrobe bit conf) s = .next s) ∧
    (s.enc.inFlight = none → s.dec.sync = .hunting → s.dec.window.length < 71 →
      exec (.rxsStrobe bit conf) s = .next { s with
        gen := { s.gen with state := Config.generatorStep s.gen.state conf },
        dec := { s.dec with window := s.dec.window ++ [{ bit := bit, conf := conf, time := s.now }],
                            slotSyms := if s.link.phase.running = true
                              then s.dec.slotSyms ++ [{ bit := bit, conf := conf, time := s.now }]
                              else s.dec.slotSyms,
                            strobeRef := s.now, gapSeen := false } })) ∧
  (∀ f c : Copy,
    (f.valid = true → c.valid = true → f.index = c.index → decideChar f (some c) = (f.index, 16)) ∧
    (f.valid = true → c.valid = true → f.index ≠ c.index →
      decideChar f (some c) = (if f.conf < c.conf then c.index else f.index, 6)) ∧
    (f.valid = true → c.valid = false → decideChar f (some c) = (f.index, 12)) ∧
    (f.valid = false → c.valid = true → decideChar f (some c) = (c.index, 12)) ∧
    (f.valid = false → c.valid = false → decideChar f (some c) = (none, 0)) ∧
    decideChar f none = (if f.valid then (f.index, 12) else (none, 0))) ∧
  ∀ (bit : Bool) (conf : BitVec 3) (s : State), s.resetLow = false → s.enc.inFlight = none →
    s.dec.sync = .spreadSync →
    let x := s.dec.stream
    let y : Sym := { bit := bit, conf := conf, time := s.now }
    let copy := readCopy (x.part ++ [y])
    let taken (z : Stream) (acc : Option Nat) (unknown : Nat) : State := { s with
      gen := { s.gen with state := Config.generatorStep s.gen.state conf },
      dec := { s.dec with window := s.windowWith bit conf,
                          slotSyms := if s.link.phase.running = true then s.dec.slotSyms ++ [y] else s.dec.slotSyms,
                          strobeRef := s.now, gapSeen := false, stream := z, acc := acc, unknown := unknown } }
    let next (z : Stream) : Host.Outcome State Fault Refusal := .next (taken z s.dec.acc s.dec.unknown)
    let lost (t : State) : Prop := t.dec.sync = .hunting ∧ t.dec.losses = min 65535 (s.dec.losses + 1) ∧
      t.dec.stream = Stream.empty ∧ t.dec.window = []
    (x.part.length < 8 → exec (.rxsStrobe bit conf) s = next { x with part := x.part ++ [y] }) ∧
    (x.part.length = 8 → x.marker = none →
      (x.f = none → exec (.rxsStrobe bit conf) s = next { x with part := [], f := some copy }) ∧
      ∀ f, x.f = some f →
        let read : Stream := { x with part := [], f := none, pair := x.pair + 1 }
        (∀ k, x.phasing = some k →
          (f.index = some 96 ∨ copy.index = some 97 →
            (k < 11 → exec (.rxsStrobe bit conf) s = next { x with part := [], f := none, phasing := some (k + 1) }) ∧
            (11 ≤ k → ∃ t, exec (.rxsStrobe bit conf) s = .next t ∧ lost t)) ∧
          (f.index ≠ some 96 → copy.index ≠ some 97 → exec (.rxsStrobe bit conf) s =
            next { x with part := [], f := none, phasing := none, pair := 1, delay := [f] })) ∧
        (x.phasing = none →
          ((x.pair + 1) % 64 = 0 → exec (.rxsStrobe bit conf) s =
            next { read with marker := some { f := f, s := copy, slots := [] } }) ∧
          ((x.pair + 1) % 64 ≠ 0 → x.pair < 4 → exec (.rxsStrobe bit conf) s =
            next { read with delay := x.delay ++ [f] }) ∧
          ((x.pair + 1) % 64 ≠ 0 → 4 ≤ x.pair → ∀ d rest, x.delay = d :: rest →
            let c := decideChar d (some copy)
            let after : Stream := { read with
              delay := rest ++ [f],
              erasureRun := if c.1 = none then x.erasureRun + 1 else 0,
              idleRun := if c.1 = some 98 then x.idleRun + 1 else 0 }
            let decided (z : Stream) (unknown : Nat) : State :=
              taken z (s.dec.acc.map fun q => feedQ q c.2) unknown
            let started (frame : FrameState) : Host.Outcome State Fault Refusal :=
              .next (decided { after with unknownRun := false, frame := frame } s.dec.unknown)
            let going (frame : FrameState) : State := decided { after with frame := frame } s.dec.unknown
            (after.erasureRun < 32 → after.idleRun < 4 →
              (x.frame = .between →
                (c.1 = some 99 → exec (.rxsStrobe bit conf) s = started (.bulletin 1 c.2 [])) ∧
                (∀ type : FrameType, c.1 = some type.index →
                  exec (.rxsStrobe bit conf) s = started (.distress type 1 c.2 [])) ∧
                (c.1 = some 98 ∨ c.1 = some 100 → exec (.rxsStrobe bit conf) s = started .between) ∧
                ((∀ i, c.1 = some i → i < 98 ∨ 104 < i) → exec (.rxsStrobe bit conf) s = .next (if x.unknownRun
                  then decided after s.dec.unknown
                  else decided { after with unknownRun := true } (min 65535 (s.dec.unknown + 1))))) ∧
              (∀ n sum header, x.frame = .bulletin n sum header →
                let more := going (.bulletin (n + 1) (sum + c.2) (header ++ [c.1]))
                let body := going (.bulletin (n + 1) (sum + c.2) header)
                (header.length < 6 → exec (.rxsStrobe bit conf) s = .next more) ∧
                (header.length = 6 → exec (.rxsStrobe bit conf) s = .next (more.bulHeader (header ++ [c.1]))) ∧
                (header.length = 7 →
                  (c.1 = some 100 → exec (.rxsStrobe bit conf) s = .next ((State.bulEnd
                    ((going x.frame).attributeBul n sum header) n sum).setFrame .between)) ∧
                  (c.1 = some 99 → exec (.rxsStrobe bit conf) s = .next ((State.bulBegin
                    ((going x.frame).attributeBul n sum header) n sum).setFrame (.bulletin 1 c.2 []))) ∧
                  (c.1 ≠ some 99 → c.1 ≠ some 100 →
                    exec (.rxsStrobe bit conf) s = .next (body.bulBody (storeCode c.1))))) ∧
              (∀ type n sum fields, x.frame = .distress type n sum fields →
                let all := fields ++ [c.1.bind fun i => if i < 95 then some i else none]
                (all.length < type.fields → exec (.rxsStrobe bit conf) s =
                  .next (going (.distress type (n + 1) (sum + c.2) all))) ∧
                (type.fields ≤ all.length →
                  let g : DistressFrame := { type := type, fields := all, pf := framePercent (n + 1) (sum + c.2),
                                             sf := frameSample (n + 1) (sum + c.2) }
                  exec (.rxsStrobe bit conf) s = .next ((State.distressFrame
                    ((going x.frame).attribute g.sender g.sf) g).setFrame .between)))) ∧
            (32 ≤ after.erasureRun → ∃ t, exec (.rxsStrobe bit conf) s = .next t ∧ lost t ∧
              ∀ n sum header, x.frame = .bulletin n sum header →
                t.bul = (State.bulCut ((going x.frame).attributeBul n sum header) .erasures n sum).bul) ∧
            (x.frame = .between → 4 ≤ after.idleRun → ∃ t, exec (.rxsStrobe bit conf) s = .next t ∧
              t.dec.sync = .hunting ∧ t.dec.stream = Stream.empty ∧ t.dec.losses = s.dec.losses)))) ∧
    (∀ m, x.part.length = 8 → x.marker = some m →
      (m.slots.length < 2 → exec (.rxsStrobe bit conf) s =
        next { x with part := [], marker := some { m with slots := m.slots ++ [copy] } }) ∧
      ∀ a b, m.slots = [a, b] → x.phasing = none → x.f = none → x.frame = .between → x.delay ≠ [] →
        x.pair % 64 = 0 → 64 ≤ x.pair → x.erasureRun < 30 → x.idleRun < 2 →
        let onTime := a.index = some 96 ∧ b.index = some 97
        let early := m.s.index = some 96 ∧ a.index = some 97
        let late := b.index = some 96 ∧ copy.index = some 97
        ∃ t, exec (.rxsStrobe bit conf) s = .next t ∧ t.dec.stream.marker = none ∧
          (onTime → t.dec.slips = s.dec.slips ∧ t.dec.missed = s.dec.missed ∧ t.dec.stream.missedRun = 0 ∧
            t.dec.stream.f = some copy ∧ t.dec.stream.pair = x.pair) ∧
          (¬ onTime → early → t.dec.slips = min 65535 (s.dec.slips + 1) ∧ t.dec.missed = s.dec.missed ∧
            t.dec.stream.missedRun = 0 ∧ t.dec.stream.f = none ∧ t.dec.stream.pair = x.pair + 1) ∧
          (¬ onTime → ¬ early → late → t.dec.slips = min 65535 (s.dec.slips + 1) ∧ t.dec.missed = s.dec.missed ∧
            t.dec.stream.missedRun = 0 ∧ t.dec.stream.f = none ∧ t.dec.stream.pair = x.pair) ∧
          (¬ onTime → ¬ early → ¬ late → t.dec.slips = s.dec.slips ∧ t.dec.missed = min 65535 (s.dec.missed + 1) ∧
            (x.missedRun = 0 → t.dec.sync = .spreadSync ∧ t.dec.stream.missedRun = 1 ∧
              t.dec.stream.f = some copy ∧ t.dec.stream.pair = x.pair) ∧
            (1 ≤ x.missedRun → lost t)))

/-- Four exact phasing pairs in the window gain sync in HUNTING and in LINKED: SPREAD-SYNC with an empty stream, the
accumulator at 2048 and one stream more counted; an overheard-link record ends. -/
def Obligations.FourPhasingPairsGainSync : Prop :=
  ∀ (bit : Bool) (conf : BitVec 3) (s : State), s.resetLow = false → s.enc.inFlight = none →
    s.dec.sync ≠ .spreadSync → 71 ≤ s.dec.window.length →
    ((s.dec.window.drop (s.dec.window.length - 71)).map (·.bit)) ++ [bit] =
      (List.replicate 4 (codeword 96 ++ codeword 97)).flatten →
    ∃ t, exec (.rxsStrobe bit conf) s = .next t ∧ t.dec.sync = .spreadSync ∧ t.dec.stream = Stream.empty ∧
      t.dec.acc = some 2048 ∧ t.dec.synced = min 65535 (s.dec.synced + 1) ∧ t.dec.align = none ∧
      t.nm.overheard = none

/-- A strobe gap of 100 ms with KEY released empties the window; in HUNTING nothing else changes, LINKED is left for
HUNTING, and a spread stream is lost and counted.

1.5 s after the last valid linked block the decoder is no longer in sync by it: LINKED is left for HUNTING, and
SPREAD-SYNC is not disturbed. -/
def Obligations.StrobeGapAndTimeoutEndSync : Prop :=
  (∀ s : State, s.resetLow = false → s.enc.inFlight = none → s.dec.gapSeen = false → s.dec.strobeRef + 100 ≤ s.now →
     (s.dec.sync = .hunting → exec .strobeGap s =
       .next { s with dec := { s.dec with gapSeen := true, window := [], slotSyms := [] } }) ∧
     ∃ t, exec .strobeGap s = .next t ∧ t.dec.window = [] ∧ t.dec.sync = .hunting ∧
       (s.dec.sync ≠ .spreadSync → t.dec.losses = s.dec.losses) ∧
       (s.dec.sync = .spreadSync → t.dec.losses = min 65535 (s.dec.losses + 1) ∧ t.dec.stream = Stream.empty)) ∧
  (∀ (s : State) (last : Nat), s.resetLow = false → s.dec.lastBlock = some last → last + 1500 ≤ s.now →
     ∃ t, exec .linkedTimeout s = .next t ∧
       t.dec = { s.dec with lastBlock := none,
                            sync := if s.dec.sync = .linked then .hunting else s.dec.sync,
                            align := if s.dec.sync = .linked then none else s.dec.align } ∧
       t.nm.busy = t.judgedBusy ∧ t.nm.table = s.nm.table ∧ t.enc = s.enc ∧ t.dis = s.dis ∧ t.port = s.port)

/-! ### The net monitor's timers and the ALARM pulse -/

/-- After 4.0 s of not busy with KEY released the channel becomes clear: reported to the link controller, which leaves
CLEARING for BACKOFF with a drawn count of 0–15 (the draw is a free value: log entry 3), and in any other state does
nothing.

A pending call half not completed in the next cycle is discarded, 730 ms after that cycle's start (log entry 61, DESIGN
CHOICE); an overheard-link record ends after 120 s without a valid block or reply; an entry CALLING or IN-SESSION for
120 s and not the current peer becomes QUIET with its partner cleared. Nothing else changes.

A call recorded: one out of range or the own call is counted rejected; a new entry takes a free place, or with 24 entries
that of the least recently heard unpinned one, which is counted. A call pair of two other stations makes the overheard-link
record; both are entered and marked CALLING with each other, the caller heard; class 3 is a silence event; a pair with a
call rejected is discarded. A block at the record's alignment is its sender's: the stage is IN-SESSION, the sender heard;
a reply is the other station's. R-ACCEPT "T" to an OVER swaps the sender from the next cycle on; a BREAK, an R-BREAK, and
R-ACCEPT to a CLOSE end the record. That halves and alignments agree to within 5 ms is log entry 8 (DESIGN CHOICE), that
each call of a pair that fails is counted is log entry 10 (DEDUCED), that an entry aged to QUIET is marked again by a
hearing is log entry 73 (DESIGN CHOICE), and that a confirming pair restarts the record's 120 s is log entry 74 (DESIGN
CHOICE). -/
def Obligations.NetMonitorTimersAct : Prop :=
  (∀ (s : State) (start : Nat), s.resetLow = false → s.nm.clear = false → s.nm.clearStart = some start →
     start + 4000 ≤ s.now →
     (s.link.phase ≠ .clearing → exec .clearInterval s = .next { s with nm := { s.nm with clear := true } }) ∧
     (s.link.phase = .clearing → ∃ c, c ≤ 15 ∧ exec .clearInterval s = .next { s with
       nm := { s.nm with clear := true },
       gen := { s.gen with draws := s.gen.draws + 1 },
       link := { s.link with phase := .backoff, backoffStart := s.now, backoffCount := c } })) ∧
  (∀ s : State, s.resetLow = false →
     (∀ h, s.nm.half = some h → h.start + 1200 + 730 ≤ s.now →
       exec .pendingHalfExpiry s = .next { s with nm := { s.nm with half := none } }) ∧
     (∀ o, s.nm.overheard = some o → o.lastValid + 120000 ≤ s.now →
       exec .overheardLinkTimeout s = .next { s with nm := { s.nm with overheard := none } }) ∧
     (∀ call e, s.station call = some e → (e.state = .calling ∨ e.state = .inSession) → e.pins.peer = false →
       e.stateTime + 120000 ≤ s.now →
       exec (.entryAging call) s = .next { s with nm := { s.nm with table := s.nm.table.map fun x =>
         if x.call = call then { x with state := .quiet, partner := none, stateTime := s.now } else x } })) ∧
  (∀ (s : State) (call : Nat),
     let valid := 10000 ≤ call ∧ call ≤ 99999 ∧ s.cfg.ownCall ≠ some call
     let entry : Station := { call := call, q := 2048, heardCount := 0, lastHeard := none, state := .quiet,
                              stateTime := s.now, partner := none, pins := ⟨false, false, false, false⟩ }
     (¬ valid → s.recordCall call =
       (false, { s with nm := { s.nm with rejected := min 65535 (s.nm.rejected + 1) } })) ∧
     (valid → s.station call ≠ none → s.recordCall call = (true, s)) ∧
     (valid → s.station call = none →
       (s.nm.table.length < 24 → s.recordCall call =
         (true, { s with nm := { s.nm with table := s.nm.table ++ [entry] } })) ∧
       ∀ old ∈ s.nm.table, 24 ≤ s.nm.table.length → old.pinned = false →
         (∀ e ∈ s.nm.table, e.pinned = false → e ≠ old → old.lessRecent e = true) →
         s.recordCall call = (true, { s with nm := { s.nm with
           table := (s.nm.table.filter fun e => e.call ≠ old.call) ++ [entry],
           replaced := min 65535 (s.nm.replaced + 1) } }))) ∧
  (∀ (bit : Bool) (conf : BitVec 3) (s : State) (caller called cls announced : Nat),
     s.completesPair bit conf caller called cls announced → caller ≠ called → s.cfg.ownCall ≠ some called →
     let failed (call : Nat) : Nat := if s.callValid call then 0 else 1
     (1 ≤ failed caller + failed called → ∃ t, exec (.rxsStrobe bit conf) s = .next t ∧ t.nm.half = none ∧
       t.nm.table = s.nm.table ∧ t.nm.overheard = s.nm.overheard ∧ t.dis = s.dis ∧
       t.nm.rejected = min 65535 (s.nm.rejected + failed caller + failed called)) ∧
     (failed caller + failed called = 0 → ∃ t o,
       exec (.rxsStrobe bit conf) s = .next t ∧ t.nm.half = none ∧ t.nm.rejected = s.nm.rejected ∧
       t.nm.overheard = some o ∧ o.caller = caller ∧ o.called = called ∧ o.lastValid = s.now ∧
       (s.nm.overheard = none → o.sender = caller ∧ o.inSession = false) ∧
       (cls = 3 → t.dis.lastSilence = some s.now) ∧ (cls ≠ 3 → t.dis = s.dis) ∧
       (s.nm.table.length + 2 ≤ 24 ∨ (s.station caller ≠ none ∧ s.station called ≠ none) → ∃ e f,
         t.station caller = some e ∧ e.lastHeard = some s.now ∧ t.station called = some f ∧
         (e.pins.peer = false → e.partner = some called ∧ (e.state = .calling ∨ e.state = .distress)) ∧
         (f.pins.peer = false → f.partner = some caller ∧ (f.state = .calling ∨ f.state = .distress))))) ∧
  ∀ (s : State) (o : Overheard) (start : Nat), s.nm.overheard = some o → sameAlign start o.align = true →
    o.sender = o.caller ∨ o.sender = o.called →
    let turned : Bool := o.swapAt.any fun u => u ≤ s.now
    let sender := if turned = false then o.sender else if o.sender = o.caller then o.called else o.caller
    let still : Overheard := { o with sender := sender, swapAt := if turned then none else o.swapAt }
    (∀ b : Block, b.kind ≠ .callA → b.kind ≠ .callB →
      let t := s.heardBlock b start
      t.nm.overheard = (if b.kind = .brk then none
        else some { still with inSession := true, lastValid := s.now, lastLong := some (b.kind, start) }) ∧
      ∀ e, s.station sender = some e → ∃ f, t.station sender = some f ∧ f.lastHeard = some s.now ∧
        f.heardCount = min 65535 (e.heardCount + 1) ∧
        (e.pins.peer = false → e.state ≠ .distress → f.state = if b.kind = .brk then .quiet else .inSession)) ∧
    ∀ r : Reply,
      let t := s.heardReply r start
      let replier := if sender = o.caller then o.called else o.caller
      let after (k : BlockType) : Prop := ∃ u, o.lastLong = some (k, u) ∧ nearly u start = true
      let ends := r.kind = .brk ∨ (r.kind = .accept ∧ after .close)
      let swaps := r.kind = .accept ∧ r.value = 52 ∧ after .over
      (ends → t.nm.overheard = none) ∧
      (¬ ends → swaps → t.nm.overheard = some { still with lastValid := s.now, swapAt := some (start + 1200) }) ∧
      (¬ ends → ¬ swaps → t.nm.overheard = some { still with lastValid := s.now }) ∧
      ∀ e, s.station replier = some e → ∃ f, t.station replier = some f ∧ f.lastHeard = some s.now ∧
        f.heardCount = min 65535 (e.heardCount + 1)

/-- The accumulators keep their range under every step (R26 names it), given that the frame in progress has its scores
of 16 at most. -/
def Obligations.QualityStaysInRangeUnderEveryStep : Prop :=
  ∀ s t : State, s.qualityRight → step s = .next t → t.qualityRight

/-! ### The transmit encoder -/

/-- With nothing in flight and TXINH deasserted a waiting BURST starts, without regard to the channel; a waiting FRAME
starts when no BURST waits and the channel is not busy. KEY is then asserted with the frame in flight from now: sync is
lost, clear ends with its timer, and the hold timer of a BURST stops. -/
def Obligations.WaitingFrameStartsBurstFirst : Prop :=
  ∀ s : State, s.resetLow = false → s.enc.inFlight = none → s.lines.txinh.asserted = false →
    (∀ r, s.enc.burst = some r → ∃ t, exec .startTransmission s = .next t ∧ t.key = true ∧
      t.enc = { s.enc with burst := none, inFlight := some { item := .frame r, slots := r.slots, start := s.now } } ∧
      t.nm.clear = false ∧ t.nm.clearStart = none ∧ t.dec.sync ≠ .spreadSync ∧ t.dis.heldSince = none) ∧
    (∀ r, s.enc.burst = none → s.enc.frame = some r → s.nm.busy = false →
      ∃ t, exec .startTransmission s = .next t ∧ t.key = true ∧
      t.enc = { s.enc with frame := none, inFlight := some { item := .frame r, slots := r.slots, start := s.now } } ∧
      t.nm.clear = false ∧ t.nm.clearStart = none ∧ t.dec.sync ≠ .spreadSync) ∧
    (∀ r, s.enc.burst = none → s.enc.frame = some r → s.nm.busy = true → exec .startTransmission s = .next s)

/-- A LINK request at its slot start, no frame waiting: it starts when the transmitter is free and silence does not
withhold it; under silence one of class 0–2 that closes no session is withheld, and with TXINH asserted it is dropped:
in both cases a block counts as a failed cycle, and a reply or call half as nothing. That the count rises at the report
is log entry 17 (DEDUCED).

A closing request starts under silence too; dropped by TXINH, it ends the session. -/
def Obligations.LinkRequestIsServedWithheldOrDropped : Prop :=
  ∀ (s : State) (r : LinkReq) (x : Session), s.resetLow = false → s.enc.link = some r → r.slotStart ≤ s.now →
    s.enc.inFlight = none → s.enc.burst = none → s.enc.frame = none → s.link.session = some x →
    let failed : State := { s with
      enc := { s.enc with link := none },
      link := { s.link with counts := { s.link.counts with failed := min 32 (s.link.counts.failed + 1) } } }
    let dropped : State := if r.kind = .block then failed else { s with enc := { s.enc with link := none } }
    (s.lines.txinh.asserted = false → (s.silence = false ∨ r.cls = 3 ∨ r.closing = true) →
      ∃ t, exec .linkSlotStart s = .next t ∧ t.key = true ∧ t.enc = { s.enc with
        link := none, inFlight := some { item := .link r, slots := r.slots, start := s.now } }) ∧
    (r.closing = false →
      (s.silence = true → r.cls ≠ 3 → exec .linkSlotStart s = .next dropped) ∧
      (s.lines.txinh.asserted = true → exec .linkSlotStart s = .next dropped)) ∧
    (r.closing = true → s.lines.txinh.asserted = true → ∃ t, exec .linkSlotStart s = .next t ∧
      t.link.session = none ∧ t.link.phase.running = false ∧ t.enc.link = none)

/-- At the end of the last symbol of any transmission KEY is released: the window is emptied, and the clear-interval timer
starts from now if the channel is not busy. A reply or call half that does not close its session has no other effect, but
that a call half of class 3 is a silence event. For a block that does not close its session, the session's block counts as sent, in ENDING as
one more CLOSE, in a session of class 3 it is a silence event, and nothing else changes. That the close count rises at the
sent report is log entry 17 (DEDUCED), and that a first role not yet taken becomes sender there is log entry 47 (DESIGN
CHOICE).

A frame completed is a silence event. A burst is counted, and while bursts are kept going the burst timer starts for
210 s and 15 s for each unit of the own call modulo 5. A relay is counted. The third DCANCEL ends own distress, and after
the first and second the 20 s gap runs. That no serial is held after that end is log entry 21 (DEDUCED). -/
def Obligations.TransmissionEndsWithItsLastSymbol : Prop :=
  ∀ (s : State) (x : Transmission), s.resetLow = false → s.enc.inFlight = some x →
    x.start + 90 * x.slots.length ≤ s.now →
    (∃ t, exec .transmissionComplete s = .next t ∧ t.key = false ∧ t.txd = false ∧ t.dec.window = [] ∧
      t.dec.strobeRef = s.now ∧ t.nm.clearStart = (if s.nm.busy then none else some s.now) ∧ ∀ r, x.item = .frame r → t.dis.lastSilence = some s.now ∧
        (r.kind = .burst → t.dis.own = s.dis.own ∧ t.dis.bursts = min 65535 (s.dis.bursts + 1) ∧
          ∀ own, s.cfg.ownCall = some own → t.dis.burstAt =
            if s.dis.own = .alerting ∨ (s.dis.own = .cancelPending ∧ s.dis.prevAck = false)
              then some (s.now + 1000 * (210 + 15 * (own % 5))) else s.dis.burstAt) ∧
        (r.kind = .relay → t.dis.own = s.dis.own ∧ t.dis.relaysSent = min 65535 (s.dis.relaysSent + 1)) ∧
        (r.kind = .dcancel → s.dis.own = .cancelling → t.dis.cancelCount = min 3 (s.dis.cancelCount + 1) ∧
          (s.dis.cancelCount < 2 → t.dis.own = .cancelling ∧ t.dis.gapAt = some (s.now + 20000)) ∧
          (2 ≤ s.dis.cancelCount → t.dis.own = .none ∧ t.dis.serial = none ∧ t.dis.gapAt = none ∧
            t.dis.burstAt = none))) ∧
    ∀ r y, x.item = .link r → s.link.session = some y → (y.cls = 3 → s.link.phase.running = true) →
      r.closing = false →
      let released : State := { s with
        enc := { s.enc with inFlight := none },
        dec := { s.dec with window := [], slotSyms := [], strobeRef := s.now, gapSeen := false },
        nm := { s.nm with clearStart := if s.nm.busy then none else some s.now },
        dis := if y.cls = 3 ∧ r.kind ≠ .reply then { s.dis with lastSilence := some s.now } else s.dis }
      (r.kind ≠ .block → exec .transmissionComplete s = .next released) ∧
      (r.kind = .block → exec .transmissionComplete s = .next { released with
        link := { s.link with
          session := some { y with
            blockSent := true, firstRole := if y.firstRole = none then some .sender else y.firstRole },
          counts := { s.link.counts with closes :=
            if s.link.phase = .ending then min 4 (s.link.counts.closes + 1) else s.link.counts.closes } } })

/-! ### The link controller -/

/-- The tests of an attempt for a destination: an own call; no own distress, silence or guard unless the class is 3; the
destination not engaged; and the port office strong enough.

A consideration in IDLE, from CONFIG CLOSED on: with no record that is eligible and passes, only the next
consideration is set, 5 s on; otherwise the first such record in queue order gives the attempt, which waits in CLEARING,
or with the channel clear in BACKOFF with a drawn count of 0–15. -/
def Obligations.ConsiderationStartsTheFirstPassingAttempt : Prop :=
  (∀ (s : State) (dest cls : Nat), s.passes dest cls = true ↔
     s.cfg.ownCall ≠ none ∧ (s.dis.own = .none ∨ cls = 3) ∧ (s.silence = false ∨ cls = 3) ∧
     (s.guardOn = false ∨ cls = 3) ∧ s.engaged dest = false ∧
     (s.cfg.portOffice = some dest → s.tooWeak dest = false)) ∧
  (∀ s : State, s.resetLow = false → s.link.phase = .idle → s.port.window = none → s.link.considerAt ≤ s.now →
     let opening := s.q.out.find? fun r => r.state = .queued && r.nextEligible ≤ s.now && s.passes r.dest r.cls
     (opening = none → exec .consideration s =
       .next { s with link := { s.link with considerAt := s.now + 5000 } }) ∧
     (∀ r, opening = some r → s.nm.clear = false → exec .consideration s =
       .next { s with link := { s.link with
         considerAt := s.now + 5000, phase := .clearing,
         attempt := some { dest := r.dest, opening := r.ref, cls := r.cls } } }) ∧
     (∀ r, opening = some r → s.nm.clear = true → ∃ c, c ≤ 15 ∧ exec .consideration s =
       .next { s with
         gen := { s.gen with draws := s.gen.draws + 1 },
         link := { s.link with
           considerAt := s.now + 5000, phase := .backoff, backoffStart := s.now, backoffCount := c,
           attempt := some { dest := r.dest, opening := r.ref, cls := r.cls } } }))

/-- The end of a backoff: when the attempt passes its tests and a record for its destination is eligible, CALLING begins
with its first boundary now, every count 0, the accumulator at 2048 and CALL-A in the long slot; when the tests fail and
no other record opens an attempt, IDLE. -/
def Obligations.BackoffEndsInCallingOrIdle : Prop :=
  ∀ (s : State) (a : Attempt), s.resetLow = false → s.link.phase = .backoff → s.link.attempt = some a →
    s.link.backoffStart + 1200 * s.link.backoffCount ≤ s.now →
    (s.enc.link = none → s.passes a.dest a.cls = true → (∃ r ∈ s.q.out, r.dest = a.dest ∧ r.eligible s.now = true) →
      ∃ t x, exec .backoffEnd s = .next t ∧ t.link.phase = .calling ∧ t.link.pendingBreak = none ∧
        t.link.session = some x ∧ x.peer = a.dest ∧ x.cls = a.cls ∧ x.caller = true ∧ x.boundary = s.now ∧
        x.start = s.now ∧ t.link.counts = LinkCounts.zero ∧ 1 ≤ x.ownCount ∧ x.ownCount ≤ 9 ∧ t.dec.acc = some 2048 ∧
        t.nm.overheard = none ∧
        t.enc = { s.enc with link := some { kind := .callHalf, chars := [105, 16 + a.cls] ++ digitIndexes 5 a.dest,
                                            slotStart := s.now, cls := a.cls, closing := false } }) ∧
    (s.passes a.dest a.cls = false → s.openingRecord = none → exec .backoffEnd s =
      .next { s with link := { s.link with phase := .idle, attempt := none, session := none, pendingBreak := none,
                                           considerAt := s.now + 5000 } })

/-- At a boundary in CALLING the next cycle begins 1200 ms on, with CALL-A in its long slot in an odd cycle and CALL-B,
with the announced count and the own call, in an even one; after the eighth cycle without R-READY the attempt ends
NO-ANSWER. In a CALLING cycle's short slot R-READY opens the session, SENDING beginning at the next boundary (what it
sends there: SenderActsOnTheReply); R-BREAK ends the attempt BROKEN-PEER with its letter's reason (one of none of the
four: log entry 46, DESIGN CHOICE); anything else, or nothing, changes no more than the hearing.

The end of a session, for any end code: the ACTIVE record returns to QUEUED and every record for the peer takes the end
code. An attempt failed when the part called and it ended NO-ANSWER, or LINK-LOST with no block accepted: each record
for the peer that is QUEUED by then and eligible is charged with one attempt more, and waits 2 min, or 30 s in class 3;
at the fifth one of class 0 or 2 is removed, its chain freed, with MESSAGE FAILED, and one of class 1 waits 15 min with
its count 0. BROKEN-PEER, PEER-FULL and any other LINK-LOST have those records wait 2 min, or 30 s in class 3; the other
codes leave their times. Incoming records in RECEIVING become PARTIAL, the peer's pin is gone, SESSION END is sent after
the records' notices, and no session, pending break or LINK request is left.

SESSION END's items stand in the order of R91's list. The model's own here: NO-ANSWER comes before a break pending at
the same boundary, which R87 would end BROKEN-LOCAL (log entry 16, DESIGN CHOICE); 2 is the code of no first role, and
the duration counts the ending cycle (log entry 20, DEDUCED); the bytes of an absent reason or announced count (log
entry 4, DESIGN CHOICE); which blocks set the first role (log entry 47, DESIGN CHOICE); that the MESSAGE FAILED notices
of one failure go out in queue order (log entry 82, DESIGN CHOICE). -/
def Obligations.CallingCyclesAlternateCallHalves : Prop :=
  (∀ (s : State) (x : Session) (own : Nat), s.resetLow = false → s.link.phase = .calling →
    s.link.session = some x → x.boundary + 1200 ≤ s.now → x.next = none → s.link.counts.failed < 32 →
    x.fullClose = false → (∀ old, s.enc.link = some old → old.closing = false) →
    let half : LinkReq :=
      { kind := .callHalf, slotStart := x.boundary + 1200, cls := x.cls, closing := false,
        chars := if x.callCycle % 2 = 0 then [105, 16 + x.cls] ++ digitIndexes 5 x.peer
          else [106, 16 + x.ownCount] ++ digitIndexes 5 own }
    (x.callCycle < 8 → s.link.pendingBreak = none → s.cfg.ownCall = some own →
      ∃ t y, exec .cycleBoundary s = .next t ∧ t.link.phase = .calling ∧ t.link.session = some y ∧
        y.callCycle = x.callCycle + 1 ∧ y.boundary = x.boundary + 1200 ∧ y.peer = x.peer ∧
        t.enc = { s.enc with link := some half }) ∧
    (8 ≤ x.callCycle → exec .cycleBoundary s = .next (State.endSession s.confirmPeer .noAnswer none false))) ∧
  (∀ (s : State) (x : Session), s.resetLow = false → s.link.phase = .calling → s.link.session = some x →
    x.longRead = true → x.shortRead = false → x.boundary + 1050 ≤ s.now →
    let read (y : Session) : LinkController := { s.link with session := some { y with shortRead := true } }
    (∀ r, s.readShort x = some r → r.kind = .ready → ∃ t, exec .sessionSlotRead s = .next t ∧
      t.link = read { x with valid := true, next := some .sending } ∧ t.enc = s.enc ∧ t.q = s.q ∧ t.port = s.port) ∧
    (∀ r, s.readShort x = some r → r.kind = .brk → ∃ u,
      exec .sessionSlotRead s = .next (State.endSession u .brokenPeer (breakReasonOf r.value) false) ∧
      u.link = read { x with valid := true } ∧ u.q = s.q ∧ u.port = s.port) ∧
    (∀ r, s.readShort x = some r → r.kind ≠ .ready → r.kind ≠ .brk → ∃ t, exec .sessionSlotRead s = .next t ∧
      t.link = read { x with valid := true } ∧ t.enc = s.enc ∧ t.q = s.q ∧ t.port = s.port) ∧
    (s.readShort x = none → exec .sessionSlotRead s = .next { s with link := read x })) ∧
  ∀ (s : State) (x : Session) (code : EndCode) (reason : Option BreakReason) (unsent : Bool),
    s.link.session = some x → (s.q.out.map (·.ref)).Nodup →
    let t := s.endSession code reason unsent
    let failed : Prop := x.caller = true ∧ (code = .noAnswer ∨ (code = .linkLost ∧ x.accepted = false))
    let waits : Prop := code = .brokenPeer ∨ code = .peerFull ∨ code = .linkLost
    let due (o : OutRec) : Prop := o.dest = x.peer ∧ o.state ≠ .intake ∧ o.nextEligible ≤ s.now
    let gone := s.q.out.filter fun o => decide (failed ∧ due o ∧ o.cls ≠ 1 ∧ o.cls ≠ 3 ∧ 4 ≤ o.attempts)
    let minutes (o : OutRec) : Nat := if o.cls = 3 then 30000 else 120000
    let kept (o : OutRec) (attempts nextEligible : Nat) : Prop := ∃ told, t.outRec o.ref = some { o with
      attempts := attempts, nextEligible := nextEligible, told := told,
      state := if o.state = .active then .queued else o.state,
      lastEnd := if o.dest = x.peer ∧ o.state ≠ .intake then some code else o.lastEnd }
    (∀ o ∈ s.q.out,
      (¬ due o → kept o o.attempts o.nextEligible) ∧
      (due o → failed →
        (o.cls = 3 → kept o (min 255 (o.attempts + 1)) (s.now + 30000)) ∧
        (o.cls ≠ 3 → o.attempts < 4 → kept o (o.attempts + 1) (s.now + 120000)) ∧
        (o.cls = 1 → 4 ≤ o.attempts → kept o 0 (s.now + 900000)) ∧
        (o.cls ≠ 1 → o.cls ≠ 3 → 4 ≤ o.attempts → t.outRec o.ref = none ∧ t.store.chain (.out o.ref) = none)) ∧
      (due o → ¬ failed → waits → kept o o.attempts (s.now + minutes o)) ∧
      (due o → ¬ failed → ¬ waits → kept o o.attempts o.nextEligible)) ∧
    t.port = (gone.foldl (fun p o => p.notice 12 [.num 1 o.ref, .num 3 o.dest, .num 1 o.cls, .num 2 o.length,
        .num 1 (min 255 (o.attempts + 1)), .num 1 code.ctorIdx]) s.port).notice 10
      [.num 1 code.ctorIdx, .num 3 x.peer, .num 1 (if x.caller then 0 else 1), .num 1 x.cls,
        .num 1 (match x.firstRole with
          | some .sender => 0
          | some .receiver => 1
          | none => 2),
        .num 2 s.link.counts.turns, .num 2 s.link.counts.charsOut, .num 2 s.link.counts.charsIn,
        .num 1 s.link.counts.msgsOut, .num 1 s.link.counts.msgsIn,
        (match reason with
          | some b => .text [b.letter]
          | none => .absent 1),
        flag unsent, numOr 1 x.announced, .num 2 (min 65535 ((s.now - x.start + 1199) / 1200))] ∧
    t.q.inc = (s.q.inc.map fun r => if r.state = .receiving
      then { r with state := .partly, lastChange := s.now, changeTod := s.tod } else r) ∧
    (∀ e ∈ t.nm.table, e.pins.peer = false) ∧ t.link.session = none ∧ t.link.pendingBreak = none ∧
    t.link.phase.running = false ∧ t.enc.link = none

/-- At a boundary with a pending break reason, in SENDING and ENDING the long slot carries the one closing BREAK with the
next sequence and the reason's letter; in RECEIVING the reason is kept for the short slot's R-BREAK; CALLING and ANSWERING
end at once. 32 failed cycles end the session at the boundary in every phase: that the limits come before a break pending
at the same boundary is the model's choice, log entry 16. -/
def Obligations.BoundaryTakesThePendingBreak : Prop :=
  ∀ (s : State) (x : Session) (reason : BreakReason) (own : Nat), s.resetLow = false →
    s.link.phase.running = true → s.link.session = some x → x.boundary + 1200 ≤ s.now →
    let brk : LinkReq :=
      { kind := .block, chars := [113, 16 + x.nextSeq, reason.letter - 32, 98, 98, 98, 98],
        slotStart := x.boundary + 1200, cls := x.cls, closing := true }
    (x.next = none → s.link.counts.failed < 32 → x.fullClose = false → x.breaking = none →
      (∀ old, s.enc.link = some old → old.closing = false) → s.link.pendingBreak = some reason →
      s.cfg.ownCall = some own →
      (s.link.phase = .sending ∨ (s.link.phase = .ending ∧ s.link.counts.closes < 4) →
        ∃ t y, exec .cycleBoundary s = .next t ∧ t.link.session = some y ∧ y.breaking = some reason ∧
          y.boundary = x.boundary + 1200 ∧ t.enc = { s.enc with link := some brk }) ∧
      (s.link.phase = .receiving → ∃ t y, exec .cycleBoundary s = .next t ∧ t.link.phase = .receiving ∧
        t.link.session = some y ∧ y.breaking = some reason ∧ y.boundary = x.boundary + 1200 ∧ t.enc = s.enc) ∧
      ((s.link.phase = .calling ∧ x.callCycle < 8) ∨ (s.link.phase = .answering ∧ x.empties < 8) →
        ∃ t, exec .cycleBoundary s = .next t ∧ t.link.session = none ∧ t.link.phase.running = false)) ∧
    (32 ≤ s.link.counts.failed → ∃ t, exec .cycleBoundary s = .next t ∧ t.link.session = none ∧ t.link.phase.running = false)

/-- A call for the part: the pair that the symbol completes names the own call, its caller is a valid call and, if the
port office, not below the call threshold, the class digit is 0–3, and a class 0–2 call meets no restriction: from IDLE,
CLEARING or BACKOFF the part is in ANSWERING, every count 0, its session's cycle the one that completes the pair, at the
alignment of the CALL-A, and answers R-READY in that cycle's short slot; the caller's entry takes the PEER pin. That the
halves of a pair agree to within 5 ms is log entry 8 (DESIGN CHOICE), and that the port office is heard before it is
judged is log entry 10 (DEDUCED).

In ANSWERING a call half, or no valid block, in the long slot is answered R-READY, the latter an empty cycle; a BREAK
ends the session; any other block enters RECEIVING with expected sequence 0 and is handled there at once, a CLOSE too
(log entry 48, DESIGN CHOICE). The eighth empty cycle in a row ends LINK-LOST, before a pending break (log entry 16,
DESIGN CHOICE).

In RECEIVING a long slot with no valid block, or a call half, is a failed cycle, answered R-REQUEST of the expected
sequence; a valid block with the sequence before the expected one is answered as it was before, and another R-REQUEST; a
BREAK ends the session, with a local break pending too (log entry 75, DESIGN CHOICE). With the expected sequence:
MSG-BEGIN opens a new record in RECEIVING, or with 16 records is answered R-HOLD; DATA is written into the open record's
pages, a page taken first where it needs one, and counted, or with no page had is answered R-HOLD; MSG-END completes the
record and is announced; a RESUME reopens the PARTIAL record it matches, or is answered R-RESTART; an OVER is answered
"T" when a record can be sent, and the turn is taken, sent or not (log entry 87, DESIGN CHOICE); a CLOSE is taken. What
is delivered is answered R-ACCEPT, the expected sequence rising. That the notices carry the on-air number in one byte is
log entry 83 (DESIGN CHOICE). -/
def Obligations.ReceiverAnswersTheLongSlot : Prop :=
  (∀ (bit : Bool) (conf : BitVec 3) (s : State) (caller own cls announced : Nat),
     s.completesPair bit conf caller own cls announced → s.cfg.ownCall = some own → s.callValid caller = true →
     (s.cfg.portOffice = some caller → ∃ e, s.station caller = some e ∧ s.cfg.threshold ≤ percentOf e.q) → cls ≤ 3 → s.port.window = none → (s.restricted = false ∨ cls = 3) →
     s.link.phase = .idle ∨ s.link.phase = .clearing ∨ s.link.phase = .backoff → s.enc.link = none →
     ∃ t y, exec (.rxsStrobe bit conf) s = .next t ∧ t.link.phase = .answering ∧ t.link.session = some y ∧
       t.link.attempt = none ∧ t.link.counts = LinkCounts.zero ∧ t.link.pendingBreak = none ∧ y.peer = caller ∧
       y.cls = cls ∧ y.caller = false ∧ y.announced = some announced ∧ y.start = y.boundary + 1200 ∧
       (∀ p start, s.nm.half = some p → (s.windowWith bit conf).head?.map (·.time) = some start →
         y.boundary = if p.isA then p.start + 1200 else start) ∧ t.dec.acc = some 2048 ∧ t.nm.half = none ∧
       t.enc = { s.enc with link := some { kind := .reply, chars := [116, 16], slotStart := y.boundary + 870, cls := cls,
                                           closing := false } } ∧
       (s.nm.table.length < 24 → ∃ e, t.station caller = some e ∧ e.pins.peer = true ∧ e.partner = some own)) ∧
  (∀ (s : State) (x : Session) (own : Nat), s.resetLow = false → s.link.phase = .answering →
    s.link.session = some x → s.cfg.ownCall = some own → s.enc.link = none →
    let ready : Encoder :=
      { s.enc with link := some { kind := .reply, chars := [116, 16], slotStart := x.boundary + 870, cls := x.cls,
                                  closing := false } }
    (x.longRead = false → x.breaking = none → x.boundary + 720 ≤ s.now →
      (s.readLong x = none → exec .sessionSlotRead s = .next { s with
        link := { s.link with session := some { x with longRead := true, empties := x.empties + 1 } }, enc := ready }) ∧
      (∀ b, s.readLong x = some b → b.kind = .callA ∨ b.kind = .callB → ∃ t, exec .sessionSlotRead s = .next t ∧
        t.link = { s.link with session := some { x with longRead := true, valid := true, empties := 0 } } ∧
        t.enc = ready ∧ t.q = s.q ∧ t.port = s.port) ∧
      (∀ b, s.readLong x = some b → b.kind = .brk → ∃ t, exec .sessionSlotRead s = .next t ∧ t.link.session = none ∧
        t.link.phase.running = false ∧ t.enc.link = none) ∧
      (∀ b, s.readLong x = some b → b.kind ≠ .callA → b.kind ≠ .callB → b.kind ≠ .brk →
        let y : Session := { x with empties := 0, expected := 0, held := none, firstRole := some .receiver }
        let receiver : State := { s with
          link := { s.link with phase := .receiving, session := some y },
          nm := { s.nm with table := s.nm.table.map fun e =>
            if e.pins.peer = true ∧ e.state ≠ .distress then { e with state := .inSession, stateTime := s.now } else e } }
        exec .sessionSlotRead s = exec .sessionSlotRead receiver ∧
        ∃ t, exec .sessionSlotRead s = .next t ∧ t.link.phase = .receiving)) ∧
    (x.boundary + 1200 ≤ s.now → s.link.counts.failed < 32 → x.fullClose = false → x.next = none →
      (8 ≤ x.empties → exec .cycleBoundary s = .next (State.endSession s.confirmPeer .linkLost none false)) ∧
      (x.empties < 8 → s.link.pendingBreak = none → ∃ t y, exec .cycleBoundary s = .next t ∧
        t.link.phase = .answering ∧ t.link.session = some y ∧ y.empties = x.empties ∧
        y.boundary = x.boundary + 1200 ∧ y.longRead = false ∧ t.enc = s.enc))) ∧
  (∀ (s : State) (x : Session) (own : Nat), s.resetLow = false → s.link.phase = .receiving →
    s.link.session = some x → x.longRead = false → x.breaking = none → x.boundary + 720 ≤ s.now →
    s.cfg.ownCall = some own → s.enc.link = none → x.expected < 8 →
    let answer (kind value : Nat) : Encoder :=
      { s.enc with link := some { kind := .reply, chars := [kind, value], slotStart := x.boundary + 870, cls := x.cls,
                                  closing := false } }
    let accepted (t : State) : Prop := t.enc = answer 114 (16 + x.expected) ∧ t.link.counts.failed = 0 ∧
      ∃ y, t.link.session = some y ∧ y.expected = (x.expected + 1) % 8 ∧
        y.held = some { kind := .accept, value := 16 + x.expected }
    let hold (t : State) : Prop := t.enc = answer 117 (16 + x.expected) ∧ t.link.counts.failed = 0 ∧
      ∃ y, t.link.session = some y ∧ y.expected = x.expected ∧ y.held = x.held
    (s.readLong x = none → exec .sessionSlotRead s = .next { s with
      link := { s.link with
        session := some { x with longRead := true },
        counts := { s.link.counts with failed := min 32 (s.link.counts.failed + 1) } },
      enc := answer 115 (16 + x.expected) }) ∧
    (∀ b, s.readLong x = some b → b.kind = .callA ∨ b.kind = .callB → ∃ t, exec .sessionSlotRead s = .next t ∧
      t.enc = answer 115 (16 + x.expected) ∧ t.q = s.q ∧ t.store = s.store ∧
      t.link.counts.failed = min 32 (s.link.counts.failed + 1)) ∧
    (∀ b, s.readLong x = some b → b.kind = .brk → ∃ t, exec .sessionSlotRead s = .next t ∧ t.link.session = none ∧
      t.link.phase.running = false ∧ t.enc.link = none) ∧
    (∀ b, s.readLong x = some b → b.kind ≠ .callA → b.kind ≠ .callB → b.kind ≠ .brk → b.digit ≠ x.expected →
      b.digit ≠ (x.expected + 7) % 8 ∨ x.held = none → ∃ t, exec .sessionSlotRead s = .next t ∧
      t.enc = answer 115 (16 + x.expected) ∧ t.link.counts.failed = 0 ∧ t.q = s.q ∧ t.store = s.store) ∧
    (∀ b r, s.readLong x = some b → b.kind ≠ .callA → b.kind ≠ .callB → b.kind ≠ .brk →
      b.digit = (x.expected + 7) % 8 → x.held = some r →
      ∃ t y, exec .sessionSlotRead s = .next t ∧ t.link.session = some y ∧ t.link.counts.failed = 0 ∧
        y.expected = x.expected ∧ t.q = s.q ∧ t.store = s.store ∧
        t.enc = { s.enc with link := some { kind := .reply, chars := r.chars, slotStart := x.boundary + 870,
                                            cls := x.cls, closing := false } }) ∧
    (∀ b, s.readLong x = some b → b.digit = x.expected → b.kind = .msgBegin → (∀ o ∈ s.q.inc, o.state ≠ .receiving) →
      ∀ n c, n < 100 → c ≤ 3 → b.payload = digitIndexes 2 n ++ [16 + c, 98, 98] →
      (∀ o ∈ s.q.inc, ¬ (o.state = .partly ∧ o.origin = x.peer ∧ o.number = some n)) →
      (s.q.inc.length < 16 → ∃ t r, exec .sessionSlotRead s = .next t ∧ accepted t ∧ t.q.inc = s.q.inc ++ [r] ∧
        r.ref = s.q.nextIncRef ∧ r.origin = x.peer ∧ r.number = some n ∧ r.cls = c ∧ r.blocks = 0 ∧
        r.state = .receiving ∧ r.lastChange = s.now ∧ t.q.out = s.q.out ∧ t.store = s.store ∧ t.port = s.port) ∧
      (16 ≤ s.q.inc.length → ∃ t, exec .sessionSlotRead s = .next t ∧ hold t ∧ t.q = s.q ∧ t.store = s.store)) ∧
    (∀ b, s.readLong x = some b → b.digit = x.expected →
      (∀ n o, b.kind = .resume → n < 100 → o < 1000 → b.payload = digitIndexes 2 n ++ digitIndexes 3 o →
        let matching (r : IncRec) : Bool :=
          r.state = .partly && r.origin = x.peer && r.number = some n && r.blocks = o
        (∀ m, s.q.inc.find? matching = some m → (∀ r ∈ s.q.inc, r.state ≠ .receiving) →
          ∃ t, exec .sessionSlotRead s = .next t ∧ accepted t ∧ t.store = s.store ∧
            t.q = { s.q with inc := s.q.inc.map fun r => if r.ref = m.ref
              then { r with state := .receiving, lastChange := s.now, changeTod := s.tod } else r }) ∧
        ((∀ r ∈ s.q.inc, matching r = false) → ∃ t y, exec .sessionSlotRead s = .next t ∧ t.enc = answer 119 16 ∧
          t.link.session = some y ∧ y.expected = x.expected ∧ y.held = x.held ∧ t.link.counts.failed = 0 ∧
          t.q = s.q ∧ t.store = s.store)) ∧
      (b.kind = .over →
        ((∃ o ∈ s.q.out, o.state = .queued ∧ o.dest = x.peer ∧ (o.cls = 3 ∨ (x.cls ≠ 3 ∧ s.restricted = false))) →
          ∃ t y, exec .sessionSlotRead s = .next t ∧ t.enc = answer 114 52 ∧ t.link.session = some y ∧
            y.next = some .turnTaking ∧ y.expected = (x.expected + 1) % 8 ∧ t.link.counts.failed = 0 ∧
            y.held = some { kind := .accept, value := 52 } ∧ t.q = s.q) ∧
        ((∀ o ∈ s.q.out, ¬ (o.state = .queued ∧ o.dest = x.peer)) →
          ∃ t, exec .sessionSlotRead s = .next t ∧ accepted t ∧ t.q = s.q ∧
            ∀ y, t.link.session = some y → y.next = x.next)) ∧
      (b.kind = .close → ∃ t, exec .sessionSlotRead s = .next t ∧ accepted t ∧ t.q = s.q ∧ t.store = s.store ∧
        ∀ y, t.link.session = some y → y.closed = true)) ∧
    (∀ b r, s.readLong x = some b → b.digit = x.expected → s.openInc = some r →
      (b.kind = .data →
        let codes := (b.payload.filter fun i => decide (i ≠ 98)).map fun i =>
          if i < 95 then i + 32 else if i = 95 then 10 else 127
        let stored := (s.store.textOf (.inc r.ref)).length
        let full := 256 * s.store.pagesOf (.inc r.ref) < stored + codes.length
        let page : Bool := s.store.grants .incoming (s.store.mark (.inc r.ref) (r.cls = 3)) 1
        stored + codes.length ≤ 4000 →
        (¬ full ∨ page = true → ∃ t, exec .sessionSlotRead s = .next t ∧ accepted t ∧
          t.store = (if full then (s.store.take (.inc r.ref) .incoming (r.cls = 3) 1).2 else s.store).write
            (.inc r.ref) codes ∧
          t.q = { s.q with inc := s.q.inc.map fun o => if o.ref = r.ref
            then { o with lastChange := s.now, changeTod := s.tod, blocks := min 999 (o.blocks + 1) } else o } ∧
          t.link.counts.charsIn = min 65535 (s.link.counts.charsIn + codes.length)) ∧
        (full → page = false →
          ∃ t, exec .sessionSlotRead s = .next t ∧ hold t ∧ t.q = s.q ∧ t.store.chains = s.store.chains ∧
            t.store.full.incoming = min 65535 (s.store.full.incoming + 1))) ∧
      (b.kind = .msgEnd → ∃ t, exec .sessionSlotRead s = .next t ∧ accepted t ∧ t.store = s.store ∧
        t.q = { s.q with completions := s.q.completions + 1, inc := s.q.inc.map fun o => if o.ref = r.ref
          then { o with lastChange := s.now, changeTod := s.tod, state := .complete, completed := s.q.completions }
          else o } ∧
        t.link.counts.msgsIn = min 255 (s.link.counts.msgsIn + 1) ∧
        t.port = s.port.notice 13 [.num 1 r.ref, .num 3 r.origin, numOr 1 r.number, .num 1 r.cls,
          .num 2 (s.store.textOf (.inc r.ref)).length, flag r.truncated])))

/-- In SENDING, the block in flight sent: R-ACCEPT of its sequence to a MSG-BEGIN, RESUME or DATA block has the record's
next DATA block due, or MSG-END; a DATA block first raises the offset by 1 and the characters out. To a MSG-END it
delivers the message: the record is removed, its chain freed, the messages out rise, and MESSAGE DELIVERED is sent, or
for a report REPORT DELIVERED, its watch entry dropped; nothing is due until the boundary (log entry 62, DESIGN CHOICE).
R-HOLD of its sequence is counted, and the 50th gives up the session. R-RESTART to a RESUME sets the offset to 0, and
MSG-BEGIN stands. To an OVER, R-ACCEPT "T" has the part in RECEIVING from the next boundary, a plain R-ACCEPT in ENDING
with CLOSE due. R-BREAK ends the session, with a local break pending too (log entry 75, DESIGN CHOICE); no reply is a
failed cycle; every other reply leaves the block standing and clears the counts, an R-HOLD of another digit not that of
holds (log entry 49, DESIGN CHOICE).

At the boundary the block in flight is placed again, or the one due with the next sequence, or with neither MSG-BEGIN or
RESUME of the first record eligible for sending, now ACTIVE, or OVER (log entry 62 again). After the 50th R-HOLD CLOSE
is placed, and the next boundary ends PEER-FULL; after R-ACCEPT "T" the part is in RECEIVING, the turn counted. A
session opened by R-READY, or a turn confirmed, has its first block so placed with sequence 0.

Turn-taking: from the boundary after "T" was answered nothing is sent; OVER is answered "T" again; BREAK and R-BREAK end
the session; R-REQUEST "0" opens the sending phase; a cycle with none of these fails.

In ENDING, R-ACCEPT of the CLOSE ends the session, the cycle's sample of 16 fed first to both accumulators (log entry
45, DEDUCED). -/
def Obligations.SenderActsOnTheReply : Prop :=
  (∀ (s : State) (x : Session) (b : SendBlock), s.resetLow = false →
    s.link.session = some x → x.longRead = true → x.shortRead = false → x.boundary + 1050 ≤ s.now →
    x.turnTaking = false → x.blockSent = true → x.breaking = none → x.fullClose = false → x.block = some b →
    let following (o : OutRec) : SendKind :=
      if o.offset < (o.length + 4) / 5 then .data o.ref (o.offset + 1) else .msgEnd o.ref
    (s.link.phase = .sending →
      (∀ ref k r, b.kind = .data ref k → s.readShort x = some r → r.kind = .accept → r.value = 16 + b.seq →
        ∃ t y, exec .sessionSlotRead s = .next t ∧ t.link.session = some y ∧ y.accepted = true ∧ y.block = none ∧
          y.nextSeq = x.nextSeq ∧ t.link.counts.failed = 0 ∧ t.link.counts.holds = 0 ∧
          t.q = { s.q with
            out := s.q.out.map fun o => if o.ref = ref then { o with offset := o.offset + 1 } else o } ∧
          t.store = s.store ∧ ∀ o, s.outRec ref = some o → y.due = some (following { o with offset := o.offset + 1 }) ∧
            t.link.counts.charsOut = min 65535 (s.link.counts.charsOut + min 5 (o.length - 5 * (k - 1)))) ∧
      (∀ ref o r, b.kind = .msgBegin ref ∨ b.kind = .resume ref → s.outRec ref = some o → s.readShort x = some r →
        r.kind = .accept → r.value = 16 + b.seq →
        ∃ t y, exec .sessionSlotRead s = .next t ∧ t.link.session = some y ∧ y.accepted = true ∧ y.block = none ∧
          y.due = some (following o) ∧ y.nextSeq = x.nextSeq ∧ t.link.counts.failed = 0 ∧ t.link.counts.holds = 0 ∧
          t.q = s.q ∧ t.store = s.store ∧ t.port = s.port) ∧
      (∀ ref o r, b.kind = .msgEnd ref → s.outRec ref = some o → s.readShort x = some r → r.kind = .accept →
        r.value = 16 + b.seq →
        ∃ t y, exec .sessionSlotRead s = .next t ∧ t.link.session = some y ∧ y.accepted = true ∧ y.block = none ∧
          y.due = none ∧ t.link.phase = .sending ∧ t.link.counts.failed = 0 ∧
          t.link.counts.msgsOut = min 255 (s.link.counts.msgsOut + 1) ∧
          t.q = { s.q with out := s.q.out.filter fun z => z.ref ≠ ref } ∧ t.store = s.store.free (.out ref) ∧
          (o.cls ≠ 1 → t.tally = s.tally ∧ t.port = s.port.notice 11 [.num 1 o.ref, .num 3 o.dest, .num 1 o.cls,
            .num 2 o.length, .num 1 o.attempts, todOr s.tod]) ∧
          (∀ n, o.cls = 1 → o.serial = some n →
            (∀ w, s.tally.watch.find? (fun w => w.serial = n) = some w →
              t.tally = { s.tally with watch := s.tally.watch.filter fun v => v.serial ≠ n } ∧
              t.port = s.port.notice 32 ([.num 2 n, .num 1 w.ref] ++ readingOr w.closed ++ readingOr s.reading ++
                [.num 1 o.attempts, flag w.overdue])) ∧
            ((∀ w ∈ s.tally.watch, w.serial ≠ n) → t.tally = s.tally ∧ t.port = s.port))) ∧
      (∀ r, s.readShort x = some r → r.kind = .hold → r.value = 16 + b.seq →
        ∃ t y, exec .sessionSlotRead s = .next t ∧ t.link.session = some y ∧ y.block = some b ∧
          y.accepted = x.accepted ∧ y.peerFull = (x.peerFull || decide (49 ≤ s.link.counts.holds)) ∧
          t.link.counts.holds = min 50 (s.link.counts.holds + 1) ∧ t.link.counts.failed = 0 ∧ t.q = s.q ∧
          t.store = s.store ∧ t.port = s.port) ∧
      (∀ ref r, b.kind = .resume ref → s.readShort x = some r → r.kind = .restart →
        ∃ t y, exec .sessionSlotRead s = .next t ∧ t.link.session = some y ∧
          y.block = some { kind := .msgBegin ref, seq := b.seq } ∧ y.accepted = x.accepted ∧ y.nextSeq = x.nextSeq ∧
          t.link.counts.failed = 0 ∧ t.link.counts.holds = 0 ∧ t.store = s.store ∧
          t.q = { s.q with out := s.q.out.map fun o => if o.ref = ref then { o with offset := 0 } else o }) ∧
      (∀ r, b.kind = .over → b.seq < 8 → s.readShort x = some r → r.kind = .accept →
        r.value = 52 ∨ r.value = 16 + b.seq →
        ∃ t y, exec .sessionSlotRead s = .next t ∧ t.link.session = some y ∧ y.accepted = true ∧
          y.nextSeq = x.nextSeq ∧ t.link.counts.failed = 0 ∧ t.link.counts.holds = 0 ∧ t.q = s.q ∧ t.store = s.store ∧
          (r.value = 52 → t.link.phase = .sending ∧ y.next = some .receiving) ∧
          (r.value = 16 + b.seq → t.link.phase = .ending ∧ y.next = x.next ∧ y.block = none ∧ y.due = some .close))) ∧
    (s.link.phase = .sending ∨ s.link.phase = .ending → b.seq < 8 →
      (s.readShort x = none → exec .sessionSlotRead s = .next { s with
        link := { s.link with
          session := some { x with shortRead := true },
          counts := { s.link.counts with failed := min 32 (s.link.counts.failed + 1) } } }) ∧
      (∀ r, s.readShort x = some r → r.kind = .brk → ∃ t, exec .sessionSlotRead s = .next t ∧
        t.link.session = none ∧ t.link.phase.running = false) ∧
      (∀ r, s.readShort x = some r →
        r.kind = .request ∨ r.kind = .ready ∨ (r.kind = .hold ∧ r.value ≠ 16 + b.seq) ∨
          (r.kind = .accept ∧ r.value ≠ 16 + b.seq ∧ (r.value ≠ 52 ∨ b.kind ≠ .over)) ∨
          (r.kind = .restart ∧ ∀ ref, b.kind ≠ .resume ref) →
        ∃ t, exec .sessionSlotRead s = .next t ∧ t.enc = s.enc ∧ t.q = s.q ∧ t.store = s.store ∧ t.port = s.port ∧
          t.link = { s.link with
            session := some { x with shortRead := true, valid := true },
            counts := { s.link.counts with
              failed := 0, holds := if r.kind = .hold then s.link.counts.holds else 0 } })) ∧
    (s.link.phase = .ending → b.kind = .close → x.sampled = true → ∀ r q, s.readShort x = some r → r.kind = .accept →
      r.value = 16 + b.seq → s.dec.acc = some q →
      ∃ t, exec .sessionSlotRead s = .next t ∧ t.link.session = none ∧ t.link.phase.running = false ∧
        t.dec.acc = some (feedQ q 16) ∧
        ∀ e, s.station x.peer = some e → ∃ f, t.station x.peer = some f ∧ f.q = feedQ e.q 16)) ∧
  (∀ (s : State) (x : Session) (own : Nat), s.resetLow = false → s.link.phase = .sending → s.link.session = some x →
    x.turnTaking = true → x.breaking = none → s.cfg.ownCall = some own → s.enc.link = none →
    (x.longRead = false → x.boundary + 720 ≤ s.now →
      (∀ b, s.readLong x = some b → b.kind = .over → ∃ t, exec .sessionSlotRead s = .next t ∧ t.link = { s.link with
          session := some { x with longRead := true, valid := true, overRead := true },
          counts := { s.link.counts with failed := 0 } } ∧
        t.enc = { s.enc with link := some { kind := .reply, chars := [114, 52], slotStart := x.boundary + 870,
                                            cls := x.cls, closing := false } } ∧ t.q = s.q ∧ t.port = s.port) ∧
      (∀ b, s.readLong x = some b → b.kind = .brk → ∃ t, exec .sessionSlotRead s = .next t ∧ t.link.session = none ∧
        t.link.phase.running = false) ∧
      (∀ b, s.readLong x = some b → b.kind ≠ .over → b.kind ≠ .brk → ∃ t y, exec .sessionSlotRead s = .next t ∧
        t.link = { s.link with session := some y } ∧ y.overRead = x.overRead ∧ y.next = x.next ∧ t.enc = s.enc ∧
        t.q = s.q ∧ t.port = s.port) ∧
      (s.readLong x = none → exec .sessionSlotRead s =
        .next { s with link := { s.link with session := some { x with longRead := true } } })) ∧
    (x.longRead = true → x.shortRead = false → x.boundary + 1050 ≤ s.now →
      let missed : LinkCounts :=
        if x.overRead then s.link.counts else { s.link.counts with failed := min 32 (s.link.counts.failed + 1) }
      (∀ r, s.readShort x = some r → r.kind = .request → r.value = 16 → ∃ t, exec .sessionSlotRead s = .next t ∧
        t.link = { s.link with
          session := some { x with shortRead := true, valid := true, next := some .sending },
          counts := { s.link.counts with failed := 0 } } ∧ t.enc = s.enc ∧ t.q = s.q ∧ t.port = s.port) ∧
      (∀ r, s.readShort x = some r → r.kind = .brk → ∃ t, exec .sessionSlotRead s = .next t ∧ t.link.session = none ∧
        t.link.phase.running = false) ∧
      (∀ r, s.readShort x = some r → r.kind ≠ .brk → r.kind ≠ .request ∨ r.value ≠ 16 → ∃ t,
        exec .sessionSlotRead s = .next t ∧ t.link = { s.link with
          session := some { x with shortRead := true, valid := true }, counts := missed } ∧
        t.enc = s.enc ∧ t.q = s.q ∧ t.port = s.port) ∧
      (s.readShort x = none → exec .sessionSlotRead s = .next { s with link := { s.link with
        session := some { x with shortRead := true }, counts := missed } }))) ∧
  ∀ (s : State) (x : Session) (own : Nat), s.resetLow = false → s.link.session = some x →
    x.boundary + 1200 ≤ s.now → s.link.counts.failed < 32 → s.link.pendingBreak = none → s.cfg.ownCall = some own →
    s.enc.link = none →
    let request (chars : List Nat) : LinkReq :=
      { kind := .block, chars := chars, slotStart := x.boundary + 1200, cls := x.cls, closing := false }
    let placed (t : State) (chars : List Nat) : Prop := t.enc = { s.enc with link := some (request chars) }
    let first := s.q.out.find? fun o =>
      decide (o.state = .queued ∧ o.dest = x.peer ∧ (s.restricted = false ∨ o.cls = 3))
    let opens (seq : Nat) (t : State) : Prop := t.link.phase = .sending ∧ ∃ y, t.link.session = some y ∧
      y.boundary = x.boundary + 1200 ∧ y.turnTaking = false ∧ y.next = none ∧ y.due = none ∧ y.nextSeq = (seq + 1) % 8 ∧
      (first = none → y.block = some { kind := .over, seq := seq } ∧ placed t [111, 16 + seq, 98, 98, 98, 98, 98] ∧
        t.q = s.q) ∧
      ∀ o, first = some o → s.outRec o.ref = some o →
        y.block = some { kind := if o.offset = 0 then .msgBegin o.ref else .resume o.ref, seq := seq } ∧
        placed t (if o.offset = 0 then [108, 16 + seq] ++ digitIndexes 2 (o.ref % 100) ++ [16 + o.cls, 98, 98]
          else [110, 16 + seq] ++ digitIndexes 2 (o.ref % 100) ++ digitIndexes 3 o.offset) ∧
        t.q = { s.q with out := s.q.out.map fun z => if z.ref = o.ref then { z with state := .active } else z }
    (x.fullClose = false → x.peerFull = false → s.link.phase = .sending → x.turnTaking = false → x.next = none →
      x.block = none → x.due = none → ∃ t, exec .cycleBoundary s = .next t ∧ opens x.nextSeq t) ∧
    (x.fullClose = false → x.peerFull = false → s.link.phase = .calling ∨ s.link.phase = .sending →
      x.next = some .sending → ∃ t, exec .cycleBoundary s = .next t ∧ opens 0 t ∧ t.link.counts = s.link.counts) ∧
    (x.fullClose = false → s.link.phase = .receiving → x.next = some .turnTaking →
      ∃ t y, exec .cycleBoundary s = .next t ∧ t.link.phase = .sending ∧ t.link.session = some y ∧
        y.turnTaking = true ∧ y.next = none ∧ y.nextSeq = 0 ∧ y.block = none ∧ y.boundary = x.boundary + 1200 ∧
        t.link.counts = { s.link.counts with turns := min 65535 (s.link.counts.turns + 1) } ∧ t.enc = s.enc ∧
        t.q = s.q) ∧
    (x.fullClose = false → s.link.phase = .sending → x.turnTaking = true → x.next = none →
      ∃ t y, exec .cycleBoundary s = .next t ∧ t.link.phase = .sending ∧ t.link.session = some y ∧
        y.turnTaking = true ∧ y.next = none ∧ y.boundary = x.boundary + 1200 ∧ t.link.counts = s.link.counts ∧
        t.enc = s.enc ∧ t.q = s.q) ∧
    (x.turnTaking = false →
      s.link.phase = .sending ∨ (s.link.phase = .ending ∧ x.peerFull = false ∧ s.link.counts.closes < 4) →
    (x.fullClose = false → x.next = none →
      (∀ b, x.block = some b → x.peerFull = false →
        ∃ t y, exec .cycleBoundary s = .next t ∧ t.link.session = some y ∧ t.link.phase = s.link.phase ∧
          y.boundary = x.boundary + 1200 ∧ y.block = some b ∧ y.nextSeq = x.nextSeq ∧ placed t (s.blockChars b)) ∧
      (∀ k, x.block = none → x.due = some k → x.peerFull = false →
        let b : SendBlock := { kind := k, seq := x.nextSeq }
        ∃ t y, exec .cycleBoundary s = .next t ∧ t.link.session = some y ∧ t.link.phase = s.link.phase ∧
          y.boundary = x.boundary + 1200 ∧ y.block = some b ∧ y.due = none ∧ y.nextSeq = (x.nextSeq + 1) % 8 ∧
          placed t (s.blockChars b)) ∧
      (∀ b, x.block = some b → x.peerFull = true →
        ∃ t y, exec .cycleBoundary s = .next t ∧ t.link.session = some y ∧ y.boundary = x.boundary + 1200 ∧
          y.fullClose = true ∧ placed t [112, 16 + b.seq, 98, 98, 98, 98, 98])) ∧
    (x.fullClose = true → exec .cycleBoundary s = .next (State.endSession (s.cycleSample x) .peerFull none false)) ∧
    (x.fullClose = false → s.link.phase = .sending → x.next = some .receiving →
      ∃ t y, exec .cycleBoundary s = .next t ∧ t.link.phase = .receiving ∧ t.link.session = some y ∧ y.expected = 0 ∧
        y.held = none ∧ y.boundary = x.boundary + 1200 ∧ t.link.counts.failed = 0 ∧ t.link.counts.holds = 0 ∧
        t.link.counts.turns = min 65535 (s.link.counts.turns + 1) ∧ t.enc = s.enc ∧ t.q = s.q))

/-! ### The queues' and receivers' timers -/

/-- A QUEUED record whose next-eligible time is reached is reported once; only IDLE acts on the report, and it starts at
most an attempt. A PARTIAL record is discarded 6 h after its last change, with PARTIAL DISCARDED, its chain freed. Heard
list entries leave 72 h after their last heard. The code 1 of the cause "expired" is log entry 44 (DEDUCED), and the one
byte of the on-air number log entry 83 (DESIGN CHOICE). -/
def Obligations.QueueTimersReportAndDiscard : Prop :=
  ∀ s : State, s.resetLow = false →
    (∀ ref r, s.outRec ref = some r → r.state = .queued → r.nextEligible ≤ s.now → r.told = false →
      let told : Queues :=
        { s.q with out := s.q.out.map fun o => if o.ref = ref then { o with told := true } else o }
      (∃ t, exec (.nextEligibleReached ref) s = .next t ∧ t.q = told ∧ t.store = s.store ∧ t.port = s.port) ∧
      (s.link.phase ≠ .idle → exec (.nextEligibleReached ref) s = .next { s with q := told })) ∧
    (∀ ref r, s.q.inc.find? (fun x => x.ref = ref && (x.state = .partly && x.lastChange + 21600000 ≤ s.now)) = some r →
      exec (.partialExpiry ref) s = .next { s with
        port := s.port.notice 14 [.num 1 ref, .num 3 r.origin, numOr 1 r.number, .num 1 r.cls,
          .num 2 (s.store.textOf (.inc ref)).length, .num 2 r.blocks, .num 1 1],
        store := s.store.free (.inc ref),
        q := { s.q with inc := s.q.inc.filter fun x => x.ref ≠ ref } }) ∧
    ((∃ h ∈ s.bul.heardList, h.lastHeard + 259200000 ≤ s.now) →
      exec .heardListExpiry s = .next { s with bul := { s.bul with
        heardList := s.bul.heardList.filter fun h => s.now < h.lastHeard + 259200000 } })

/-- A window reaching a boundary takes the state its spans give, its heard mark clear; an ACTIVE window that ends
unheard is counted missed with a MISSED BULLETIN notice; a quiet one that becomes ACTIVE during a session of class 0–2
starts its grace of 180 s. The end of a window withdraws its grace before the 180 s pass; a grace that runs out at that
very moment is told to the link controller.

A window's grace that runs out is told to the link controller: a session of class 0–2 with no break pending gets the
reason W, and nothing else changes. -/
def Obligations.WindowBoundaryAndGraceAct : Prop :=
  (∀ (s : State) (k : Nat) (tod : Nat) (w : LiveWindow), s.resetLow = false → 1 ≤ k →
     s.bul.windows[k - 1]? = some w → s.tod = some tod → w.win.stateAt tod ≠ w.state →
     let missed : Bool := w.state = .active && !w.heard
     ∃ t, exec (.windowBoundary k) s = .next t ∧
       t.bul = { s.bul with
         windows := s.bul.windows.set (k - 1)
           { w with state := w.win.stateAt tod, heard := false,
                    grace := if w.win.stateAt tod = .active && w.win.quiet && s.lowerSession
                      then some (s.now + 180000) else none },
         missed := if missed then min 65535 (s.bul.missed + 1) else s.bul.missed } ∧
       t.port = (if missed then s.port.notice 22 [.num 1 k, .num 3 w.win.coast, .text [w.win.origin1, w.win.origin2],
         .text [w.win.subject], .num 2 w.win.start, .num 1 w.win.duration] else s.port) ∧
       (w.state = .active → s.lowerSession = true →
         (∀ g, w.grace = some g → g ≤ s.now → s.link.pendingBreak = none → t.link.pendingBreak = some .window) ∧
         ((∀ g, w.grace = some g → s.now < g) → t.link = s.link))) ∧
  (∀ (s : State) (k g : Nat) (w : LiveWindow), s.resetLow = false → 1 ≤ k → s.bul.windows[k - 1]? = some w →
     w.grace = some g → g ≤ s.now →
     exec (.graceExpiry k) s = .next { s with
       bul := { s.bul with windows := s.bul.windows.set (k - 1) { w with grace := none } },
       link := { s.link with pendingBreak :=
         if s.lowerSession && s.link.pendingBreak.isNone then some .window else s.link.pendingBreak } })

/-! ### The catch tally -/

/-- The armed hour close, when the latest close instant's day count is later than the last close day D: D takes it, and
a close is asked for. With no own call or port office it is not made, and REPORT DEFERRED says so; while a close is
pending it joins that one; with 16 outgoing records it becomes pending with the cause QUEUE. When the day count is not
later, nothing happens.

CLOSE REPORT where no close is made: refused before CONFIG CLOSED and without own call or port office; ACCEPTED with
the mark "already pending" while a close is pending; and with 16 outgoing records ACCEPTED with the mark "deferred" and
the cause, REPORT DEFERRED sent, the close pending. The marks 0 and 1, and the deferral count's rise when a close becomes
pending, are log entry 26 (DEDUCED); the code 4 of NOT-CONFIGURED is log entry 69 (DESIGN CHOICE). -/
def Obligations.CloseIsAskedForOrDeferred : Prop :=
  (∀ (s : State) (d : Nat) (rd : Reading), s.resetLow = false → s.tally.closeDay = some d → s.reading = some rd →
     let day := if s.cfg.closeHour * 3600 ≤ rd.secs then rd.day else (rd.day + 65535) % 65536
     let later := (day + 65536 - d) % 65536
     let deferred (cause : Nat) : List Field := [.num 2 s.tally.serial, .num 1 0, .num 1 cause,
       .num 1 s.tally.rows.length, .num 2 (reportLength s.tally.rows.length)]
     (later = 0 ∨ 32767 < later → exec .closeInstant s = .next s) ∧
     (1 ≤ later → later ≤ 32767 →
       (s.cfg.ownCall = none ∨ s.cfg.portOffice = none → exec .closeInstant s = .next { s with
         tally := { s.tally with closeDay := some day }, port := s.port.notice 31 (deferred 4) }) ∧
       (s.cfg.ownCall ≠ none → s.cfg.portOffice ≠ none → s.tally.pending ≠ none →
         exec .closeInstant s = .next { s with tally := { s.tally with closeDay := some day } }) ∧
       (s.cfg.ownCall ≠ none → s.cfg.portOffice ≠ none → s.tally.pending = none → 16 ≤ s.q.out.length →
         exec .closeInstant s = .next { s with
           tally := { s.tally with
             closeDay := some day, deferrals := min 65535 (s.tally.deferrals + 1),
             pending := some { source := .hour, since := s.now, cause := .queue, retryAt := s.now + 60000 } },
           port := s.port.notice 31 (deferred 0) }))) ∧
  (∀ (s : State) (r : Request), s.takes r →
     (s.windowOpen → exec (.closeReport r) s = .next (s.result 113 r .state [])) ∧
     (s.port.window = none → s.cfg.ownCall = none ∨ s.cfg.portOffice = none →
       exec (.closeReport r) s = .next (s.result 113 r .notConfigured [])) ∧
     (s.port.window = none → s.cfg.ownCall ≠ none → s.cfg.portOffice ≠ none → s.tally.pending ≠ none →
       exec (.closeReport r) s = .next (s.result 113 r .accepted [.num 1 0])) ∧
     (s.port.window = none → s.cfg.ownCall ≠ none → s.cfg.portOffice ≠ none → s.tally.pending = none →
       16 ≤ s.q.out.length → ∃ t, exec (.closeReport r) s = .next t ∧ t.tally = { s.tally with
         deferrals := min 65535 (s.tally.deferrals + 1),
         pending := some { source := .request, since := s.now, cause := .queue, retryAt := s.now + 60000 } } ∧
         t.q = s.q ∧ t.store = s.store ∧ ∃ u, t = State.result u 113 r .accepted [.num 1 1, .num 1 0] ∧
           u.port = s.port.notice 31 [.num 2 s.tally.serial, .num 1 1, .num 1 0, .num 1 s.tally.rows.length,
             .num 2 (reportLength s.tally.rows.length)]))

/-- The text of a catch report has the length that its pages were asked for by.

A close whose report record the queues and the text store can grant is made whole, by CLOSE REPORT, at the close
instant and at a retry alike: the hauls and rows are emptied, the serial advances, the close is counted, the watch entry
is made, and a QUEUED class-1 record for the port office carries the report's text. -/
def Obligations.GrantedCloseMakesTheWholeReport : Prop :=
  (∀ (own serial : Nat) (tod : Option Nat) (rows : List TallyRow),
     (∀ r ∈ rows, r.species.length = 3 ∧ r.area.length = 4) →
     (reportText own serial tod rows).length = reportLength rows.length) ∧
  (∀ (s : State) (own office : Nat), s.resetLow = false → s.cfg.ownCall = some own → s.cfg.portOffice = some office →
     s.q.out.length < 16 → (s.q.out.filter fun o => o.cls = 1).length < 4 →
     (∀ o ∈ s.q.out, ¬ (o.cls = 1 ∧ o.serial = some s.tally.serial)) →
     s.store.grants .outgoing false (pagesFor (reportLength s.tally.rows.length)) = true →
     let ref := s.q.nextOutRef
     let made (t : State) (day : Option Nat) : Prop :=
       t.tally = { s.tally with
         watch := s.tally.watch ++ [{ serial := s.tally.serial, ref := ref, closedAt := s.now, closed := s.reading,
                                      deadline := s.now + 3600000 * s.cfg.deadline, overdue := false }],
         hauls := [], rows := [], serial := if 999 ≤ s.tally.serial then 1 else s.tally.serial + 1,
         opened := s.reading, closes := min 65535 (s.tally.closes + 1), pending := none, closeDay := day } ∧
       (∃ o ∈ t.q.out, o.ref = ref ∧ o.dest = office ∧ o.cls = 1 ∧ o.state = .queued ∧ o.offset = 0 ∧
         o.length = reportLength s.tally.rows.length ∧ o.serial = some s.tally.serial) ∧
       (s.store.chain (.out ref) = none → (∀ x ∈ s.tally.rows, x.species.length = 3 ∧ x.area.length = 4) →
         t.store.textOf (.out ref) = reportText own s.tally.serial s.tod s.tally.rows)
     (∀ r, s.takes r → s.port.window = none → s.tally.pending = none →
       ∃ t, exec (.closeReport r) s = .next t ∧ made t s.tally.closeDay) ∧
     (∀ d rd, s.tally.closeDay = some d → s.reading = some rd → s.tally.pending = none →
       laterDay (latestClose s.cfg.closeHour rd) d = true →
       ∃ t, exec .closeInstant s = .next t ∧ made t (some (latestClose s.cfg.closeHour rd))) ∧
     (∀ p, s.tally.pending = some p → p.retryAt ≤ s.now →
       ∃ t, exec .closeRetry s = .next t ∧ made t s.tally.closeDay))

/-- A retry of a pending close: while the own call or the port office is missing, or the outgoing queue still holds 16
records as at the last refusal, the retry timer only starts again for 60 s.

A report at its deadline undelivered is marked overdue and announced once, with its record's attempts and last end
code; the record stays in the queue. That the time of the close goes as day count and time of day is log entry 70 (DESIGN
CHOICE). -/
def Obligations.CatchTimersRetryAndAnnounce : Prop :=
  (∀ (s : State) (p : PendingClose), s.resetLow = false → s.tally.pending = some p → p.retryAt ≤ s.now →
     (s.cfg.ownCall = none ∨ s.cfg.portOffice = none ∨ (16 ≤ s.q.out.length ∧ p.cause = .queue)) →
     exec .closeRetry s =
       .next { s with tally := { s.tally with pending := some { p with retryAt := s.now + 60000 } } }) ∧
  (∀ (s : State) (serial : Nat) (w : ReportWatch), s.resetLow = false →
     s.tally.watch.find? (fun x => x.serial = serial && (!x.overdue && x.deadline ≤ s.now)) = some w →
     exec (.reportOverdue serial) s = .next { s with
       tally := { s.tally with watch := s.tally.watch.map fun x =>
         if x.serial = serial then { x with overdue := true } else x },
       port := s.port.notice 33 ([.num 2 serial, .num 1 w.ref] ++ readingOr w.closed ++ [.num 1 s.cfg.deadline]
         ++ s.attemptItems w.ref) })

/-- HAUL ENTRY is judged in order: its values, its period, its key, its table row; what it does is answered with the
list and table as they then stand. That a withdrawal, and a request that does nothing, report the table row of the
request's species and area, which need not be that of the entry withdrawn, is log entry 76 (DESIGN CHOICE). -/
def Obligations.HaulEntryIsJudgedInOrder : Prop :=
  ∀ (s : State) (r : Request), s.takes r →
    (haulOf r.params = none → exec (.haulEntry r) s = .next (s.result 112 r .invalid [])) ∧
    ∀ h serial, haulOf r.params = some (h, serial) →
      (haulValid h serial = false → exec (.haulEntry r) s = .next (s.result 112 r .invalid [])) ∧
      (haulValid h serial = true → serial ≠ 0 → serial ≠ s.tally.serial →
        exec (.haulEntry r) s = .next (State.result
          { s with tally := { s.tally with late := min 65535 (s.tally.late + 1) } } 112 r .closed [])) ∧
      (haulValid h serial = true → serial = 0 ∨ serial = s.tally.serial →
        let done (did : Nat) (t : CatchTally) : Host.Outcome State Fault Refusal :=
          .next (State.result { s with tally := t } 112 r .done ([.num 1 did, .num 2 s.tally.serial,
            .num 1 t.hauls.length, .num 1 t.rows.length] ++ rowItems t.rows h))
        let added := addToRows s.tally.rows h
        (s.tally.haulOf h.number h.species = none →
          (h.weight = 0 → exec (.haulEntry r) s = done 3 s.tally) ∧
          (0 < h.weight → 96 ≤ s.tally.hauls.length ∨ 48 < added.length →
            exec (.haulEntry r) s = .next (s.result 112 r .full [])) ∧
          (0 < h.weight → s.tally.hauls.length < 96 → added.length ≤ 48 → exec (.haulEntry r) s =
            done 0 { s.tally with hauls := insertBy Haul.before h s.tally.hauls, rows := added })) ∧
        (∀ old, s.tally.haulOf h.number h.species = some old →
          let left := takeFromRows s.tally.rows old
          (h.weight = 0 → exec (.haulEntry r) s =
            done 2 { s.tally with hauls := s.tally.without h, rows := left }) ∧
          (0 < h.weight → 48 < (addToRows left h).length →
            exec (.haulEntry r) s = .next (s.result 112 r .full [])) ∧
          (0 < h.weight → (addToRows left h).length ≤ 48 → exec (.haulEntry r) s =
            done 1 { s.tally with hauls := insertBy Haul.before h (s.tally.without h),
                                  rows := addToRows left h })))

/-- The tally table stays the haul list summed, row by row, under every step (R142 names it). -/
def Obligations.TallyStaysSummedUnderEveryStep : Prop :=
  ∀ s t : State, s.tally.summed → s.tally.bounded → step s = .next t → t.tally.summed ∧ t.tally.bounded

/-! ### The distress unit -/

/-- RAISE DISTRESS in NONE enters ALERTING: the next serial is drawn (99 followed by 01), the nature and the alert time
are taken, silence and a break with reason D come into force, the burst count is 0 and the first burst is placed, held
at once under TXINH. The answer is DONE with the serial.

RAISE DISTRESS otherwise: REFUSED-INVALID for a nature that is no letter, before REFUSED-NOT-CONFIGURED without an
own call; REFUSED-STATE while CANCELLING; in ALERTING the nature is replaced, and nothing else. In ACKNOWLEDGED it is
ALERTING again under the same serial, the nature replaced and a burst placed at once unless one is out. In CANCEL-PENDING
the cancel is abandoned, and it acts as in the previous state. DONE carries the serial only from NONE: log entry 21
(DEDUCED). -/
def Obligations.RaiseDistressActsByItsState : Prop :=
  (∀ (s : State) (r : Request) (nature : Byte) (rest : List Byte) (own : Nat), s.takes r → s.bridge r.src →
     r.params = nature :: rest → 65 ≤ nature.toNat → nature.toNat ≤ 90 → s.cfg.ownCall = some own →
     s.dis.own = .none → s.burstOut = false →
     let n := s.dis.counter % 99 + 1
     ∃ t u, exec (.raiseDistress r) s = .next t ∧ t = State.result u 64 r .done [.num 1 n] ∧ u.port = s.port ∧
       t.dis.own = .alerting ∧ t.dis.counter = n ∧ t.dis.serial = some n ∧ t.dis.nature = some nature.toNat ∧
       t.dis.alertTime = s.tod.map (fun h => h / 3600 * 100 + h / 60 % 60) ∧ t.dis.bursts = 0 ∧
       t.dis.burstAt = none ∧ t.dis.list = s.dis.list ∧ t.dis.queue = s.dis.queue ∧ t.silence = true ∧
       t.enc = { s.enc with burst := some { kind := .burst, fields := t.burstFields own, placed := s.now } } ∧
       t.dis.heldSince = (if s.lines.txinh.asserted then some s.now else none) ∧
       (s.link.phase.running = true → s.link.pendingBreak = none → t.link.pendingBreak = some .distress) ∧
       t.q = s.q ∧ t.store = s.store ∧ t.tally = s.tally ∧ t.bul = s.bul ∧ t.nm = s.nm) ∧
  (∀ (s : State) (r : Request), s.takes r → s.bridge r.src → r.params = [] →
     exec (.raiseDistress r) s = .next (s.result 64 r .invalid [])) ∧
  (∀ (s : State) (r : Request) (nature : Byte) (rest : List Byte), s.takes r → s.bridge r.src →
     r.params = nature :: rest →
     (nature.toNat < 65 ∨ 90 < nature.toNat → exec (.raiseDistress r) s = .next (s.result 64 r .invalid [])) ∧
     (65 ≤ nature.toNat → nature.toNat ≤ 90 →
       (s.cfg.ownCall = none → exec (.raiseDistress r) s = .next (s.result 64 r .notConfigured [])) ∧
       (s.cfg.ownCall ≠ none → s.dis.own = .cancelling →
         exec (.raiseDistress r) s = .next (s.result 64 r .state [])) ∧
       (s.cfg.ownCall ≠ none → s.dis.own = .alerting → exec (.raiseDistress r) s =
         .next (State.result { s with dis := { s.dis with nature := some nature.toNat } } 64 r .done [])) ∧
       (s.cfg.ownCall ≠ none → s.dis.own = .cancelPending → s.dis.prevAck = false → exec (.raiseDistress r) s =
         .next (State.result { s with dis := { s.dis with
           own := .alerting, cancelAt := none, nature := some nature.toNat } } 64 r .done [])) ∧
       (∀ own, s.cfg.ownCall = some own →
         s.dis.own = .acknowledged ∨ (s.dis.own = .cancelPending ∧ s.dis.prevAck = true) →
         ∃ t u, exec (.raiseDistress r) s = .next t ∧ t = State.result u 64 r .done [] ∧ u.port = s.port ∧
           t.dis.own = .alerting ∧ t.dis.nature = some nature.toNat ∧ t.dis.serial = s.dis.serial ∧
           t.dis.counter = s.dis.counter ∧ t.dis.bursts = s.dis.bursts ∧ t.dis.list = s.dis.list ∧
           (s.dis.own = .cancelPending → t.dis.cancelAt = none) ∧ (s.burstOut = true → t.enc = s.enc) ∧
           (s.burstOut = false → t.dis.burstAt = none ∧
             t.enc = { s.enc with burst := some { kind := .burst, fields := t.burstFields own, placed := s.now } }) ∧
           t.link = s.link ∧ t.q = s.q ∧ t.nm = s.nm)))

/-- The two-stage cancel: CANCEL DISTRESS in ALERTING or ACKNOWLEDGED enters CANCEL-PENDING for 30 s, keeping the previous
state, and elsewhere is refused; at the timer's expiry the previous state returns with CANCEL NOT CONFIRMED. -/
def Obligations.CancelDistressWaitsForItsConfirmation : Prop :=
  ∀ s : State,
    (∀ r, s.takes r → s.bridge r.src → s.dis.own = .alerting ∨ s.dis.own = .acknowledged →
      exec (.cancelDistress r) s = .next (State.result
        { s with dis := { s.dis with own := .cancelPending, prevAck := s.dis.own = .acknowledged,
                                     cancelAt := some (s.now + 30000) } } 65 r .accepted [])) ∧
    (∀ r, s.takes r → s.bridge r.src → s.dis.own = .none ∨ s.dis.own = .cancelPending ∨ s.dis.own = .cancelling →
      exec (.cancelDistress r) s = .next (s.result 65 r .state [])) ∧
    (∀ c, s.resetLow = false → s.dis.own = .cancelPending → s.dis.cancelAt = some c → c ≤ s.now →
      exec .cancelTimerExpiry s = .next { s with
        dis := { s.dis with own := if s.dis.prevAck then .acknowledged else .alerting, cancelAt := none },
        port := s.port.notice 43 [numOr 1 s.dis.serial] })

/-- The burst timer places the next burst unless one is out; a burst held under TXINH for 60 s is announced DISTRESS HELD,
once for that burst. The moment of its placing is carried in 6 bytes, log entry 25 (DEDUCED), and in no other form, log
entry 78 (DESIGN CHOICE). -/
def Obligations.BurstTimersPlaceAndAnnounce : Prop :=
  ∀ s : State, s.resetLow = false →
    (∀ t, s.dis.burstAt = some t → t ≤ s.now → s.burstOut = true →
      exec .burstTimerExpiry s = .next { s with dis := { s.dis with burstAt := none } }) ∧
    (∀ t own, s.dis.burstAt = some t → t ≤ s.now → s.burstOut = false → s.cfg.ownCall = some own →
      ∃ u, exec .burstTimerExpiry s = .next u ∧ u.dis.burstAt = none ∧ u.dis.heldTold = false ∧
        u.dis.own = s.dis.own ∧ u.dis.serial = s.dis.serial ∧ u.dis.bursts = s.dis.bursts ∧
        u.enc = { s.enc with burst := some { kind := .burst, fields := u.burstFields own, placed := s.now } } ∧
        u.link = s.link ∧ u.port = s.port) ∧
    (∀ r h, s.enc.burst = some r → s.dis.heldSince = some h → h + 60000 ≤ s.now → s.dis.holdDone = false →
      exec .distressHeld s = .next { s with
        dis := { s.dis with holdDone := true, heldTold := true },
        port := if s.dis.heldTold then s.port
          else s.port.notice 42 [numOr 1 s.dis.serial, .num 6 r.placed] })

/-- A burst's 23 field characters: the own call and serial, the nature, the position if it arrived within 600 s and "?"
otherwise, and the alert time or "????". -/
def Obligations.BurstCarriesItsFields : Prop :=
  ∀ (s : State) (own : Nat),
    (s.burstFields own).length = 23 ∧ (s.burstFields own).take 5 = digitIndexes 5 own ∧
    (∀ n, s.dis.serial = some n → ((s.burstFields own).drop 5).take 2 = digitIndexes 2 n) ∧
    (∀ c, s.dis.nature = some c → (s.burstFields own)[7]? = some (c - 32)) ∧
    (s.clock.position = none → ((s.burstFields own).drop 8).take 11 = List.replicate 11 31) ∧
    (∀ p, s.clock.position = some p → p.arrival + 600000 < s.now →
      ((s.burstFields own).drop 8).take 11 = List.replicate 11 31) ∧
    (∀ p, s.clock.position = some p → s.now ≤ p.arrival + 600000 →
      ((s.burstFields own).drop 8).take 11 = formatPosition p) ∧
    (s.dis.alertTime = none → (s.burstFields own).drop 19 = List.replicate 4 31) ∧
    (∀ h, s.dis.alertTime = some h → (s.burstFields own).drop 19 = digitIndexes 4 h)

/-- ACKNOWLEDGE ALERT: for one origin its entry becomes bridge-acknowledged with its watch STOPPED, and no other entry
changes; for all, every entry does and ALARM goes off; an origin not listed, or nothing that can be read, is
REFUSED-INVALID. Each result carries the number of entries still unacknowledged. In BRIDGE mode an IDLE relay starts its
hold-off. -/
def Obligations.AcknowledgeAlertStopsTheWatch : Prop :=
  ∀ (s : State) (r : Request), s.takes r → s.bridge r.src →
    let left := (s.dis.list.filter fun e => !e.bridgeAck).length
    (selectorAt r.params 3 = none → exec (.acknowledgeAlert r) s = .next (s.result 66 r .invalid [.num 1 left])) ∧
    (∀ origin, selectorAt r.params 3 = some (.one origin) →
      (s.distressEntry origin = none →
        exec (.acknowledgeAlert r) s = .next (s.result 66 r .invalid [.num 1 left])) ∧
      (∀ e, s.distressEntry origin = some e → ∃ t u, exec (.acknowledgeAlert r) s = .next t ∧
        t = State.result u 66 r .done [flag e.bridgeAck, .num 1 t.dis.unacked.length] ∧ u.port = s.port ∧
        t.dis.list = s.dis.list.map (fun e => if e.origin = origin then s.ackEntry e else e) ∧
        t.dis.alarm = alarmOf t.dis.list ∧ t.enc = s.enc ∧ t.link = s.link ∧ t.nm = s.nm ∧ t.q = s.q)) ∧
    (selectorAt r.params 3 = some .every → ∃ t u, exec (.acknowledgeAlert r) s = .next t ∧
      t = State.result u 66 r .done [.num 1 s.dis.unacked.length, .num 1 0] ∧ u.port = s.port ∧
      t.dis.list = s.dis.list.map s.ackEntry ∧ (∀ e ∈ t.dis.list, e.bridgeAck = true) ∧ t.dis.alarm = .off ∧
      t.dis.repeatAt = none) ∧
    ∀ e : DistressEntry,
      (e.bridgeAck = true → s.ackEntry e = e) ∧
      (e.bridgeAck = false → s.cfg.relayMode ≠ .bridge ∨ s.cfg.ownCall = none ∨ e.relay ≠ .idle →
        s.ackEntry e = { e with bridgeAck := true, watch := .stopped }) ∧
      (∀ own, e.bridgeAck = false → s.cfg.relayMode = .bridge → s.cfg.ownCall = some own → e.relay = .idle →
        let h := 20 + 2 * ((100 - e.best) / 4) + 3 * (own % 8)
        s.ackEntry e = { e with bridgeAck := true, watch := .stopped, relay := .waiting,
                                holdOff := some (h, s.now + 1000 * h), due := false })

/-- At the end of the gap between DCANCEL frames the next one joins the frame queue, once: behind what is queued while a
frame is out or a class-3 session runs, and otherwise, with nothing queued, straight to the FRAME position.

A hold-off that runs out makes its relay due: it joins the frame queue, once, and waits there while a frame is out or
a class-3 session runs; with the queue empty and the position free it is placed at once, and its entry is SENT. -/
def Obligations.DueFramesJoinTheFrameQueue : Prop :=
  (∀ (s : State) (g : Nat), s.resetLow = false → s.dis.gapAt = some g → g ≤ s.now →
     let dcancel (own serial : Nat) : FrameReq :=
       { kind := .dcancel, fields := digitIndexes 5 own ++ digitIndexes 2 serial, placed := s.now }
     (s.frameOut = true ∨ s.classThree = true → exec .cancelGapExpiry s = .next { s with dis := { s.dis with
       gapAt := none,
       queue := if s.dis.queue.contains .dcancel then s.dis.queue else s.dis.queue ++ [.dcancel] } }) ∧
     (∀ own serial, s.frameOut = false → s.classThree = false → s.dis.queue = [] → s.cfg.ownCall = some own →
       s.dis.serial = some serial → exec .cancelGapExpiry s = .next { s with
         dis := { s.dis with gapAt := none }
         enc := { s.enc with frame := some (dcancel own serial) } })) ∧
  (∀ (s : State) (origin h at_ : Nat) (e : DistressEntry), s.resetLow = false → s.distressEntry origin = some e →
     e.relay = .waiting → e.due = false → e.holdOff = some (h, at_) → at_ ≤ s.now →
     let due := s.dis.list.map fun x => if x.origin = origin then { x with due := true } else x
     let relay (own : Nat) : FrameReq := { kind := .relay, fields := e.relayFields own, placed := s.now }
     (s.frameOut = true ∨ s.classThree = true → exec (.holdOffExpiry origin) s = .next { s with dis := { s.dis with
       list := due,
       queue := if s.dis.queue.contains (.relay origin) then s.dis.queue else s.dis.queue ++ [.relay origin] } }) ∧
     (∀ own, s.frameOut = false → s.classThree = false → s.dis.queue = [] → s.cfg.ownCall = some own →
       exec (.holdOffExpiry origin) s = .next { s with
         dis := { s.dis with list := s.dis.list.map fun x =>
           if x.origin = origin then { x with relay := .sent, holdOff := none, due := false } else x }
         enc := { s.enc with frame := some (relay own) } }))

/-- A watch that expires becomes EXPIRED, is counted, pulses ALARM and is announced with its origin and serial, the most
urgent entry and the number of the others; the first REPEAT is set 30 s after it, unless a repeat timer is running, which
goes on as it was. ALARM's repeat timer announces again every 30 s; the pulsed output changes level every second.

An entry bridge-acknowledged, coast-acknowledged or cancelled, and 60 min past its last heard is removed, with its due
relay; the origin's station entry loses the DISTRESS pin reason, and the mark with it: it is QUIET with its partner
cleared, or for the current peer IN-SESSION in SENDING, RECEIVING or ENDING and else CALLING, with the own call as partner,
state time now in both cases. Silence with own distress NONE ends 15 min after the latest silence event. That the end leaves the link controller
as it was is log entry 19, and that REPEAT names the most urgent entry as its cause is log entry 22 (both DEDUCED). -/
def Obligations.DistressListTimersAct : Prop :=
  (∀ s : State, s.resetLow = false →
     (∀ origin e, s.distressEntry origin = some e → e.watch = .running → e.bridgeAck = false → e.watchEnd ≤ s.now →
       ∃ t, exec (.watchExpiry origin) s = .next t ∧ t.dis.alarm = .pulsed ∧
         t.dis.list = s.dis.list.map (fun x => if x.origin = origin then { x with watch := .expired } else x) ∧
         t.dis.expiries = min 65535 (s.dis.expiries + 1) ∧
         t.dis.repeatAt = some (s.dis.repeatAt.getD (s.now + 30000)) ∧
         (s.dis.alarm ≠ .pulsed → t.dis.alarmOn = true ∧ t.dis.pulseAt = s.now + 1000) ∧
         t.port = s.port.notice 40 ([.num 1 2, .num 3 origin, .num 1 e.serial] ++ urgentFields t.dis.mostUrgent
           ++ [.num 1 (t.dis.unacked.length - 1)]) ∧
         t.enc = s.enc ∧ t.link = s.link ∧ t.nm = s.nm) ∧
     (∀ at_ e, s.dis.repeatAt = some at_ → at_ ≤ s.now → s.dis.mostUrgent = some e →
       exec .alarmRepeat s = .next { s with
         dis := { s.dis with repeatAt := some (s.now + 30000) },
         port := s.port.notice 40 ([.num 1 3, .num 3 e.origin, .num 1 e.serial] ++ urgentFields (some e)
           ++ [.num 1 (s.dis.unacked.length - 1)]) }) ∧
     (s.dis.alarm = .pulsed → s.dis.pulseAt ≤ s.now → exec .alarmPulse s =
       .next { s with dis := { s.dis with alarmOn := !s.dis.alarmOn, pulseAt := s.dis.pulseAt + 1000 } })) ∧
  (∀ s : State, s.resetLow = false →
     (∀ origin e, s.distressEntry origin = some e → e.bridgeAck = true → e.coastAck ≠ none ∨ e.cancelled = true →
       e.lastHeard + 3600000 ≤ s.now →
         let unpinned (x : Station) : Station := { x with pins := { x.pins with distress := false } }
         let unmarked (x : Station) : Station :=
           if x.state ≠ .distress then unpinned x
           else if x.pins.peer = false then { unpinned x with state := .quiet, partner := none, stateTime := s.now }
           else { unpinned x with
             state := if s.link.phase = .sending ∨ s.link.phase = .receiving ∨ s.link.phase = .ending then .inSession
               else .calling,
             partner := s.cfg.ownCall, stateTime := s.now }
         ∃ t, exec (.entryRemoval origin) s = .next t ∧
         t.dis.list = s.dis.list.filter (fun x => x.origin ≠ origin) ∧
         t.dis.queue = s.dis.queue.filter (fun x => x ≠ .relay origin) ∧ t.dis.alarm = alarmOf t.dis.list ∧
         t.nm = { s.nm with table := s.nm.table.map fun x => if x.call = origin then unmarked x else x } ∧
         t.enc = s.enc ∧ t.link = s.link ∧ t.port = s.port ∧ t.q = s.q) ∧
     (∀ l, s.dis.own = .none → s.dis.lastSilence = some l → l + 900000 ≤ s.now →
       exec .silenceEnd s = .next { s with dis := { s.dis with lastSilence := none } }))

/-- A distress frame is a silence event, and is then dispatched: unusable, it is counted; with the own call as origin it
concerns the own alert; an ALERT or RELAY of an origin below 10000 is counted unusable, and any other goes to its entry.

A usable ALERT or RELAY with a listed entry's origin and serial is merged: unknown nature and time are filled in, a
known position replaces the entry's, last heard is now, best P_f the greater; a RELAY counts and suppresses the entry's
relay, its hold-off dropped and the relay out of the frame queue; the watch and the acknowledgements stay, and no notice
is sent. With another serial it resets the entry, and of an origin not listed it makes one: with its watch running, its
relay state set, and an ALARM notice. A full list gives up its first bridge-acknowledged entry, counted, or with none the
alert is not tracked: counted and announced.

A DACK of a coast station or a DCANCEL of a listed origin and serial acknowledges or cancels the entry, and its relay is
not sent; any other DACK, of no coast station or with a coast acknowledgement already held, changes last heard and nothing
else. A DACK whose coast call is readable and below 10000 is one of no coast station (log entry 79, DESIGN CHOICE). A serial
heard as "00" is serial 0 (log entry 84, DESIGN CHOICE).

The own alert: an ALERT is ignored; a coast station's DACK of the own serial acknowledges it in ALERTING, or in
CANCEL-PENDING from ALERTING, the burst timer stopped; every other DACK, a RELAY and a DCANCEL change no state. Each but the
ALERT gives OWN ALERT EVENT, a DACK or RELAY of another serial marked so. The places of that mark and of the NOT TRACKED
fields are log entry 22 (DEDUCED). -/
def Obligations.HeardAlertIsMerged : Prop :=
  (∀ (s : State) (f : DistressFrame),
    let u := s.silenceEvent
    let counted : State := { u with dis := { u.dis with unusable := min 65535 (s.dis.unusable + 1) } }
    u.dis = { s.dis with lastSilence := some s.now } ∧
    (f.origin = none ∨ f.serial = none → s.distressFrame f = counted) ∧
    ∀ origin serial, f.origin = some origin → f.serial = some serial →
      (s.cfg.ownCall = some origin → s.distressFrame f = u.ownAlertFrame f serial) ∧
      (s.cfg.ownCall ≠ some origin →
        (f.type = .alert ∨ f.type = .relay → origin < 10000 → s.distressFrame f = counted) ∧
        (f.type = .alert ∨ f.type = .relay → 10000 ≤ origin → s.distressFrame f = u.alertHeard f origin serial) ∧
        (f.type = .dack ∨ f.type = .dcancel → s.distressFrame f = u.ackHeard f origin serial))) ∧
  (∀ (s : State) (f : DistressFrame) (origin : Nat) (e : DistressEntry), s.distressEntry origin = some e →
    (f.type = .alert ∨ f.type = .relay) →
    let t := s.alertHeard f origin e.serial
    t.port = s.port ∧
    t.dis.queue = (if f.type = .relay then s.dis.queue.filter fun x => x ≠ .relay origin else s.dis.queue) ∧
    ∃ x, t.distressEntry origin = some x ∧
      x.nature = (if e.nature = none then f.nature else e.nature) ∧
      x.time = (if e.time = none then f.time else e.time) ∧
      x.position = (if f.position = none then e.position else f.position) ∧
      x.lastHeard = s.now ∧ x.best = max e.best f.pf ∧
      x.relays = (if f.type = .relay then min 255 (e.relays + 1) else e.relays) ∧
      x.relayers = (if f.type = .relay ∧ f.other ≠ none ∧ e.relayers.length < 3 ∧ f.other.all (e.relayers.contains ·) = false
        then e.relayers ++ f.other.toList else e.relayers) ∧
      x.watch = e.watch ∧ x.watchEnd = e.watchEnd ∧ x.bridgeAck = e.bridgeAck ∧ x.coastAck = e.coastAck ∧
      x.cancelled = e.cancelled ∧
      x.relay = (if f.type = .relay ∧ (e.relay = .idle ∨ e.relay = .waiting) then .suppressed else e.relay) ∧
      x.holdOff = (if f.type = .relay ∧ e.relay = .waiting then none else e.holdOff) ∧
      x.due = (if f.type = .relay ∧ e.relay = .waiting then false else e.due)) ∧
  (∀ (s : State) (f : DistressFrame) (origin serial : Nat), f.type = .alert ∨ f.type = .relay →
    let t := s.alertHeard f origin serial
    let made (left : List DistressEntry) (cause : Nat) : Prop :=
      (∃ x, t.dis.list = left ++ [x] ∧ x.origin = origin ∧ x.serial = serial ∧ x.nature = f.nature ∧
        x.position = f.position ∧ x.time = f.time ∧ x.firstHeard = s.now ∧ x.firstTod = s.tod ∧ x.lastHeard = s.now ∧
        x.best = f.pf ∧ x.coastAck = none ∧ x.bridgeAck = false ∧ x.cancelled = false ∧ x.watch = .running ∧
        x.watchEnd = s.now + 1000 * s.cfg.watchInterval ∧ x.relays = (if f.type = .relay then 1 else 0) ∧
        x.relayers = (if f.type = .relay then f.other.toList else []) ∧
        x.relay = (if s.cfg.relayMode = .off ∨ s.cfg.ownCall = none then .notEligible
          else if f.type = .relay then .suppressed else if s.cfg.relayMode = .auto then .waiting else .idle)) ∧
      t.dis.alarm = alarmOf t.dis.list ∧
      t.port = s.port.notice 40 ([.num 1 cause, .num 3 origin, .num 1 serial] ++ urgentFields t.dis.mostUrgent
        ++ [.num 1 (t.dis.unacked.length - 1)]) ∧
      (s.callValid origin = true → s.nm.table.length < 24 →
        ∃ e, t.station origin = some e ∧ e.state = .distress ∧ e.pins.distress = true)
    (∀ e, s.distressEntry origin = some e → e.serial ≠ serial →
      made (s.dis.list.filter fun x => x.origin ≠ origin) 1 ∧
      t.dis.queue = s.dis.queue.filter fun x => x ≠ .relay origin) ∧
    (s.distressEntry origin = none →
      (s.dis.list.length < 8 → made s.dis.list 0 ∧ t.dis.replaced = s.dis.replaced) ∧
      (∀ old, 8 ≤ s.dis.list.length → s.dis.list.find? (fun e => e.bridgeAck) = some old →
        made (s.dis.list.filter fun x => x.origin ≠ old.origin) 0 ∧
        t.dis.replaced = min 65535 (s.dis.replaced + 1) ∧
        t.dis.queue = s.dis.queue.filter fun x => x ≠ .relay old.origin) ∧
      (8 ≤ s.dis.list.length → (∀ e ∈ s.dis.list, e.bridgeAck = false) → t = { s with
        dis := { s.dis with notTracked := min 65535 (s.dis.notTracked + 1) },
        port := s.port.notice 40 ([.num 1 4, .num 3 origin, .num 1 serial] ++ urgentFields s.dis.mostUrgent
          ++ [.num 1 (s.dis.unacked.length - 1)] ++ (if f.type = .relay then [numOr 3 f.other] else [])
          ++ [letterField f.nature, positionField f.position, timeField f.time, .num 1 f.pf]) }))) ∧
  (∀ (s : State) (f : DistressFrame) (origin serial : Nat) (e : DistressEntry), s.distressEntry origin = some e →
    (e.serial ≠ serial → s.ackHeard f origin serial = s) ∧
    (e.serial = serial →
      let coast := f.type = .dack ∧ ∃ c, f.other = some c ∧ 90000 ≤ c ∧ c ≤ 99999
      let ends := f.type = .dcancel ∨ (coast ∧ e.coastAck = none)
      let t := s.ackHeard f origin serial
      ∃ x, t.distressEntry origin = some x ∧ x.lastHeard = s.now ∧ x.bridgeAck = e.bridgeAck ∧ x.watch = e.watch ∧
        x.cancelled = (if f.type = .dcancel then true else e.cancelled) ∧
        (coast → e.coastAck = none → x.coastAck = f.other) ∧ (e.coastAck ≠ none → x.coastAck = e.coastAck) ∧
        (ends → (e.relay = .idle → x.relay = .notEligible) ∧
          (e.relay = .waiting → x.relay = .suppressed ∧ x.holdOff = none) ∧
          t.dis.queue = s.dis.queue.filter fun x => x ≠ .relay origin) ∧
        t.port = s.port ∧ t.enc = s.enc ∧ t.link = s.link ∧
        (f.type = .dack → ¬ ends → t = { s with dis := { s.dis with
          list := s.dis.list.map fun x => if x.origin = origin then { x with lastHeard := s.now } else x } }))) ∧
  ∀ (s : State) (f : DistressFrame) (serial : Nat),
    let coast := f.type = .dack ∧ ∃ c, f.other = some c ∧ 90000 ≤ c ∧ c ≤ 99999
    let foreign := s.dis.own = .none ∨ s.dis.serial ≠ some serial
    let mark : Nat := if s.dis.own = .none ∨ s.dis.serial ≠ some serial then 1 else 0
    let event (kind : Nat) (call : Option Nat) (own : OwnState) (mark : Nat) : Port := s.port.notice 44
      [.num 1 kind, numOr 3 call, .num 1 serial, numOr 1 s.dis.serial, .num 1 own.ctorIdx, .num 1 f.pf, .num 1 mark]
    (f.type = .alert → s.ownAlertFrame f serial = s) ∧
    (f.type = .relay → s.ownAlertFrame f serial = { s with port := event 2 f.other s.dis.own mark }) ∧
    (f.type = .dcancel → s.ownAlertFrame f serial = { s with port := event 3 f.origin s.dis.own 0 }) ∧
    (f.type = .dack → ¬ coast → s.ownAlertFrame f serial = { s with port := event 1 f.other s.dis.own mark }) ∧
    (coast →
      (¬ foreign → s.dis.own = .alerting → s.ownAlertFrame f serial = { s with
        dis := { s.dis with own := .acknowledged, burstAt := none }, port := event 0 f.other .acknowledged 0 }) ∧
      (¬ foreign → s.dis.own = .cancelPending → s.dis.prevAck = false → s.ownAlertFrame f serial = { s with
        dis := { s.dis with prevAck := true, burstAt := none }, port := event 0 f.other .cancelPending 0 }) ∧
      (foreign ∨ s.dis.own = .acknowledged ∨ s.dis.own = .cancelling ∨
          (s.dis.own = .cancelPending ∧ s.dis.prevAck = true) →
        s.ownAlertFrame f serial = { s with port := event 0 f.other s.dis.own mark }))

/-- ALARM shows what the distress list calls for after every step from a state where it does. -/
def Obligations.AlarmFollowsTheListUnderEveryStep : Prop :=
  ∀ s t : State, s.alarmRight → step s = .next t → t.alarmRight

/-! ### Lines and clock -/

/-- A raw pin that departs from the accepted level makes a candidate timed from now, one that returns discards it, and a
candidate standing is kept; DIS and CNL are asserted low, TXINH and CD high.

A candidate held for the filter time (DIS and CNL 3.0 s, TXINH 20 ms, CD as in force) is accepted and counted, and
LINE CHANGE is placed with the four levels before its line's block acts, whichever the line and the level: it is the only
notice of that moment, but for DISTRESS NOT SENT and for what a LINK transmission cut short brings after it. A release of
DIS, CNL or TXINH does nothing more.

An assertion of TXINH releases KEY, and a BURST or FRAME in flight goes back whole to its waiting position, unless a newer
one stands there. DIS asserted raises own distress with the nature "U", or keeps it ALERTING with a burst placed; without
an own call it gives DISTRESS NOT SENT with cause 0 and while CANCELLING with cause 1 (the codes: log entry 22, DEDUCED).
That DIS keeps a nature held is log entry 21 (DEDUCED). CNL asserted in CANCEL-PENDING enters CANCELLING, the first
DCANCEL placed or queued, and otherwise does nothing more.

CD asserted or released: under ANY the channel is busy with CD asserted or the decoder in sync, under BOTH with CD asserted
and the decoder in sync; busy ends clear and stops the clear-interval timer, and no longer busy starts it unless KEY is
asserted. -/
def Obligations.LinesFollowTheirPins : Prop :=
  (∀ (s : State) (line : Line) (high : Bool), s.resetLow = false →
     let x := s.lines.input line
     let asserted := if line = .dis ∨ line = .cnl then !high else high
     (asserted = x.asserted → exec (.rawLevelChange line high) s =
       .next { s with lines := s.lines.setInput line { x with candidate := none } }) ∧
     (asserted ≠ x.asserted → x.candidate = none → exec (.rawLevelChange line high) s =
       .next { s with lines := s.lines.setInput line { x with candidate := some s.now } }) ∧
     (asserted ≠ x.asserted → x.candidate ≠ none → exec (.rawLevelChange line high) s = .next s)) ∧
  (∀ (s : State) (line : Line) (c : Nat), s.resetLow = false → (s.lines.input line).candidate = some c →
     c + (match line with
       | .dis => 3000
       | .cnl => 3000
       | .txinh => 20
       | .cd => s.cfg.cdFilter) ≤ s.now →
     let x := s.lines.input line
     let y : Input := { asserted := !x.asserted, candidate := none, changes := min 65535 (x.changes + 1) }
     let lines := s.lines.setInput line y
     let place := line.ctorIdx
     let level (asserted : Bool) : Field := .num 1 (if asserted then 0 else 1)
     let port := s.port.notice 50 ([.num 1 place, level y.asserted, level lines.dis.asserted, level lines.cnl.asserted,
       level lines.txinh.asserted, level lines.cd.asserted, .num 2 y.changes, todOr s.tod])
     (∃ t, exec (.acceptedChange line) s = .next t ∧ t.lines = lines ∧ (line = .cnl ∨ line = .cd → t.port = port) ∧
       (line = .txinh → y.asserted = true → t = State.abandon { s with lines := lines, port := port } ∧
         ((∀ w r, s.enc.inFlight = some w → w.item = .link r → r.closing = false) → t.port = port) ∧ t.key = false ∧ (s.enc.burst ≠ none → t.dis.heldSince ≠ none) ∧
         ∀ w r, s.enc.inFlight = some w → w.item = .frame r →
           t.enc = (if r.kind = .burst then { s.enc with inFlight := none, burst := some (s.enc.burst.getD r) }
             else { s.enc with inFlight := none, frame := some (s.enc.frame.getD r) })) ∧
       (line = .cd →
         let sync : Prop := s.dec.sync = .spreadSync ∨ s.dec.lastBlock ≠ none
         (s.cfg.busyRule = .any → (t.nm.busy = true ↔ y.asserted = true ∨ sync)) ∧
         (s.cfg.busyRule = .both → (t.nm.busy = true ↔ y.asserted = true ∧ sync)) ∧
         (t.nm.busy = s.nm.busy → t.nm = s.nm ∧ t.link = s.link) ∧
         (s.nm.busy = false → t.nm.busy = true → t.nm.clear = false ∧ t.nm.clearStart = none) ∧
         (s.nm.busy = true → t.nm.busy = false →
           t.nm.clearStart = if s.enc.inFlight = none then some s.now else none)) ∧
       (line = .dis → y.asserted = true → s.cfg.ownCall ≠ none → s.dis.own ≠ .cancelling →
         t = State.disRaise { s with lines := lines, port := port } ∧ t.port = port ∧ t.dis.own = .alerting ∧
         (s.dis.own = .none → t.dis.nature = some 85 ∧ t.dis.serial = some (s.dis.counter % 99 + 1) ∧ t.silence = true) ∧
         (s.dis.own ≠ .none → t.dis.nature = s.dis.nature ∧ t.dis.serial = s.dis.serial) ∧
         (s.dis.own = .cancelPending → t.dis.cancelAt = none) ∧
         ∀ own, s.cfg.ownCall = some own → s.burstOut = false → t.dis.burstAt = none ∧
           t.enc = { s.enc with burst := some { kind := .burst, fields := t.burstFields own, placed := s.now } })) ∧
     (line ≠ .cd → y.asserted = false → exec (.acceptedChange line) s =
       .next { s with lines := lines, port := port }) ∧
     (line = .dis → y.asserted = true →
       (s.cfg.ownCall = none → exec (.acceptedChange line) s =
         .next { s with lines := lines, port := port.notice 41 [.num 1 0] }) ∧
       (s.cfg.ownCall ≠ none → s.dis.own = .cancelling → exec (.acceptedChange line) s =
         .next { s with lines := lines, port := port.notice 41 [.num 1 1] })) ∧
     (line = .cnl → y.asserted = true →
       let cancelling : Distress := { s.dis with
         own := .cancelling, cancelAt := none, burstAt := none, cancelCount := 0, gapAt := none }
       let queue := if s.dis.queue.contains .dcancel then s.dis.queue else s.dis.queue ++ [.dcancel]
       (s.dis.own ≠ .cancelPending → exec (.acceptedChange line) s = .next { s with lines := lines, port := port }) ∧
       (s.dis.own = .cancelPending → s.frameOut = true ∨ s.classThree = true → exec (.acceptedChange line) s =
         .next { s with lines := lines, port := port, dis := { cancelling with queue := queue } }) ∧
       (∀ own n, s.dis.own = .cancelPending → s.frameOut = false → s.classThree = false → s.dis.queue = [] →
         s.cfg.ownCall = some own → s.dis.serial = some n →
         let first : FrameReq :=
           { kind := .dcancel, fields := digitIndexes 5 own ++ digitIndexes 2 n, placed := s.now }
         exec (.acceptedChange line) s = .next { s with
           lines := lines, port := port, dis := cancelling, enc := { s.enc with frame := some first } })))

/-- TIME: a seconds of day above 86399 is only counted; the first one sets the clock; one within 2 s of the reading is a
correction, which going backward makes the reading stand until it is reached; any other is a step. Every one taken
synchronizes the clock. That the difference is taken in whole seconds and a correction in milliseconds is log entry 28
(DEDUCED). -/
def Obligations.TimeIsJudgedAtItsArrival : Prop :=
  ∀ (s : State) (src : Byte) (day : BitVec 16) (seconds : BitVec 24), s.hears src →
    let secs := day.toNat * 86400 + seconds.toNat
    let cycle := 65536 * 86400
    let since (ref : ClockRef) : Clock :=
      { s.clock with ref := some ref, synced := true, lastTime := some s.now }
    let now : ClockRef := { since := s.now, value := 1000 * secs, stand := 0 }
    (86399 < seconds.toNat → exec (.time src day seconds) s =
      .next { s with clock := { s.clock with ignoredTimes := min 65535 (s.clock.ignoredTimes + 1) } }) ∧
    (seconds.toNat ≤ 86399 → s.clock.ref = none → ∃ t, exec (.time src day seconds) s = .next t ∧
      t.clock = since now ∧ t.reading = some { day := day.toNat, secs := seconds.toNat } ∧
      t.enc = s.enc ∧ t.dis = s.dis ∧ t.store = s.store) ∧
    ∀ c, s.clock.ref = some c → seconds.toNat ≤ 86399 →
      let reading := c.at s.now
      let d := (secs + cycle - reading / 1000) % cycle
      let ahead := (1000 * secs + 1000 * cycle - reading) % (1000 * cycle)
      let counted (k : Clock) : Clock := { k with corrections := min 65535 (s.clock.corrections + 1) }
      (d ≤ 2 ∨ cycle - 2 ≤ d →
        (ahead ≤ 500 * cycle → exec (.time src day seconds) s = .next { s with clock := counted (since now) }) ∧
        (500 * cycle < ahead → exec (.time src day seconds) s = .next { s with clock := counted (since
          { since := s.now, value := reading, stand := 1000 * cycle - ahead }) })) ∧
      (2 < d → d < cycle - 2 → ∃ t, exec (.time src day seconds) s = .next t ∧
        t.clock = { since now with steps := min 65535 (s.clock.steps + 1) } ∧
        t.reading = some { day := day.toNat, secs := seconds.toNat })

/-- The clock runs with the own timebase, one second a second, through midnight and day count 65535; the synchronized flag
falls 600 s after the last TIME; a POSITION in range replaces the one held, and any other is only counted. -/
def Obligations.ClockRunsAndPositionIsHeld : Prop :=
  (∀ (s : State) (c : ClockRef) (k : Nat), s.clock.ref = some c → c.stand = 0 → c.since ≤ s.now →
    State.reading { s with now := s.now + k } = some (readingOf ((c.at s.now + k) % (65536 * 86400000)))) ∧
  (∀ (s : State) (t : Nat), s.resetLow = false → s.clock.synced = true → s.clock.lastTime = some t →
    t + 600000 ≤ s.now → exec .syncLapse s = .next { s with clock := { s.clock with synced := false } }) ∧
  ∀ (s : State) (src : Byte) (lat lon : BitVec 32), s.hears src →
    (-5400000 ≤ lat.toInt ∧ lat.toInt ≤ 5400000 ∧ -10800000 ≤ lon.toInt ∧ lon.toInt ≤ 10800000 →
      exec (.position src lat lon) s = .next { s with clock := { s.clock with
        position := some { latitude := lat.toInt, longitude := lon.toInt, arrival := s.now } } }) ∧
    (lat.toInt < -5400000 ∨ 5400000 < lat.toInt ∨ lon.toInt < -10800000 ∨ 10800000 < lon.toInt →
      exec (.position src lat lon) s = .next { s with clock := { s.clock with
        ignoredPositions := min 65535 (s.clock.ignoredPositions + 1) } })

/-! ### The vessel bus port -/

/-- Request assemblies: a lead with 1–15 continuations makes one while fewer than 8 stand, and is otherwise answered
REFUSED-BUSY; with more it is counted malformed. A lead while an assembly of its source stands abandons that one, answered
REFUSED-INVALID, and then acts as with none standing. The next continuation adds its bytes; a repeat is discarded; any other
index abandons the assembly; another tag, or no assembly, is a stray frame; 1 s without a frame abandons it. That a repeat
leaves the 1 s as it stands, and a count above 15 is malformed, is log entry 32 (DEDUCED).

A lead frame that announces no continuation is the whole request: for each class, and for each item of CONFIGURE and
STATUS, it acts as that request's command; and so does the last continuation, with the parameters gathered. -/
def Obligations.RequestsAreAssembledInOrderAndServed : Prop :=
  (∀ (s : State) (r : Request), s.hears r.src →
     (∀ cls count : Byte, s.port.assembly r.src = none → requestClass cls.toNat = true → 1 ≤ count.toNat →
       r.params.length ≤ 6 →
       (15 < count.toNat → exec (.assemblyLead cls r count) s =
         .next { s with port := { s.port with malformed := min 65535 (s.port.malformed + 1) } }) ∧
       (count.toNat ≤ 15 → s.port.assemblies.length < 8 → exec (.assemblyLead cls r count) s = .next { s with port := { s.port with
         assemblies := s.port.assemblies ++ [{ src := r.src, tag := r.tag, cls := cls, count := count, next := 1,
                                               params := r.params, last := s.now }] } }) ∧
       (count.toNat ≤ 15 → 8 ≤ s.port.assemblies.length → exec (.assemblyLead cls r count) s = .next (State.result { s with
         port := { s.port with busyAssembly := min 65535 (s.port.busyAssembly + 1) } } cls.toNat r .busy []))) ∧
     (∀ (cls count : Byte) (a : Assembly), s.port.assembly r.src = some a → requestClass cls.toNat = true →
       count.toNat ≤ 15 → r.params.length ≤ 6 →
       let t : State := State.result
         { s with port := { s.port with assemblies := s.port.assemblies.filter fun x => x.src ≠ r.src } } a.cls.toNat
         { src := r.src, tag := a.tag, params := [] } .invalid []
       t.port.assembly r.src = none ∧ exec (.assemblyLead cls r count) s = exec (.assemblyLead cls r count) t) ∧
     (∀ index : Byte, r.params ≠ [] → r.params.length ≤ 6 →
       (s.port.assembly r.src = none → exec (.requestContinuation r index) s =
         .next { s with port := { s.port with stray := min 65535 (s.port.stray + 1) } }) ∧
       ∀ a, s.port.assembly r.src = some a →
         let left := s.port.assemblies.filter fun x => x.src ≠ r.src
         (a.tag ≠ r.tag → exec (.requestContinuation r index) s =
           .next { s with port := { s.port with stray := min 65535 (s.port.stray + 1) } }) ∧
         (a.tag = r.tag → index = a.next → index ≠ a.count → exec (.requestContinuation r index) s =
           .next { s with port := { s.port with assemblies := s.port.assemblies.map fun x =>
             if x.src = r.src then { a with next := a.next + 1, params := a.params ++ r.params, last := s.now }
               else x } }) ∧
         (a.tag = r.tag → index ≠ a.next → index = a.next - 1 → exec (.requestContinuation r index) s = .next s) ∧
         (a.tag = r.tag → index ≠ a.next → index ≠ a.next - 1 → exec (.requestContinuation r index) s =
           .next (State.result { s with port := { s.port with assemblies := left } } a.cls.toNat
             { src := r.src, tag := a.tag, params := [] } .invalid []))) ∧
     (∀ a, s.port.assemblies.find? (fun x => x.src = r.src && x.last + 1000 ≤ s.now) = some a →
       exec (.assemblyTimeout r.src) s = .next (State.result
         { s with port := { s.port with assemblies := s.port.assemblies.filter fun x => x.src ≠ r.src } }
         a.cls.toNat { src := r.src, tag := a.tag, params := [] } .invalid []))) ∧
  ((∀ (s : State) (r : Request), r.params.length ≤ 6 →
     (∀ row ∈ requestRows, exec (.assemblyLead row.1 r 0) s = exec (row.2 r) s) ∧
     ∀ item v, r.params = item :: v →
       (∀ row ∈ configureRows, item = row.1 → exec (.assemblyLead 80 r 0) s = exec (row.2 { r with params := v }) s) ∧
       (∀ row ∈ statusRows, item = row.1 → exec (.assemblyLead 128 r 0) s = exec (row.2 { r with params := v }) s)) ∧
   ∀ (s : State) (r : Request) (a : Assembly), s.hears r.src → s.port.assembly r.src = some a → a.tag = r.tag →
     a.next = a.count → r.params ≠ [] → r.params.length ≤ 6 →
     let t : State := { s with port := { s.port with assemblies := s.port.assemblies.filter fun x => x.src ≠ r.src } }
     let whole := a.params ++ r.params
     (∀ row ∈ requestRows, a.cls = row.1 →
       exec (.requestContinuation r a.next) s = exec (row.2 { r with params := whole }) t) ∧
     ∀ item v, whole = item :: v →
       (∀ row ∈ configureRows, a.cls = 80 → item = row.1 →
         exec (.requestContinuation r a.next) s = exec (row.2 { r with params := v }) t) ∧
       (∀ row ∈ statusRows, a.cls = 128 → item = row.1 →
         exec (.requestContinuation r a.next) s = exec (row.2 { r with params := v }) t))

/-- A frame from a station strapped alike, of any kind and to any station, is counted and changes nothing else; a frame
that does not fit the tables is counted malformed; one addressed to another station, or to all without being TIME or
POSITION, is ignored. MALFORMED_FRAME with a frame that fits acts as that frame's own command: log entry 34 (DEDUCED).

The bridge-only requests are handed to their owner when the bridge station list is empty or holds the source;
otherwise the port refuses them, counts the refusal, and the owner does not see them. -/
def Obligations.PortRefusesWhatItMayNotTake : Prop :=
  (∀ s : State, s.resetLow = false →
     let alike : State := { s with port := { s.port with duplicates := min 65535 (s.port.duplicates + 1) } }
     let own := s.port.station
     (∀ day seconds, exec (.time own day seconds) s = .next alike) ∧
     (∀ lat lon, exec (.position own lat lon) s = .next alike) ∧
     (∀ seq bytes, exec (.text own seq bytes) s = .next alike) ∧
     (∀ cls r count, r.src = own → exec (.assemblyLead cls r count) s = .next alike) ∧
     (∀ r index, r.src = own → exec (.requestContinuation r index) s = .next alike) ∧
     (∀ r, r.src = own → exec (.sendMessage r) s = .next alike ∧ exec (.haulEntry r) s = .next alike ∧
       exec (.raiseDistress r) s = .next alike ∧ exec (.configureOwnCall r) s = .next alike ∧
       exec (.statusClock r) s = .next alike) ∧
     (∀ f : CanFrame, f.dest = own → f.src ≠ own → f.command = none → exec (.malformedFrame f) s =
       .next { s with port := { s.port with malformed := min 65535 (s.port.malformed + 1) } }) ∧
     (∀ f : CanFrame, f.src = own → exec (.malformedFrame f) s = .next alike) ∧
     (∀ f : CanFrame, f.src ≠ own → f.dest ≠ own → f.dest ≠ 255 → exec (.malformedFrame f) s = .next s) ∧
     (∀ f : CanFrame, f.src ≠ own → f.dest ≠ own → f.cls ≠ 16 → f.cls ≠ 17 → exec (.malformedFrame f) s = .next s) ∧
     (∀ (f : CanFrame) (c : Instr), f.src ≠ own → f.command = some c →
       f.dest = own ∨ (f.dest = 255 ∧ (f.cls = 16 ∨ f.cls = 17)) → exec (.malformedFrame f) s = exec c s)) ∧
  (∀ (s : State) (r : Request), s.takes r →
     (s.bridge r.src →
       exec (.raiseDistress r) s = .next (s.reqRaise r) ∧
       exec (.cancelDistress r) s = .next (s.reqCancelDistress r) ∧
       exec (.acknowledgeAlert r) s = .next (s.reqAck r) ∧
       exec (.setSelection r) s = .next (s.reqSelection r) ∧
       exec (.linkRestart r) s = .next (s.reqRestart r)) ∧
     (¬ s.bridge r.src →
       let refused (cls : Nat) : Host.Outcome State Fault Refusal := .next (State.result
         { s with port := { s.port with accessRefusals := min 65535 (s.port.accessRefusals + 1) } } cls r .notAllowed [])
       exec (.raiseDistress r) s = refused 64 ∧ exec (.cancelDistress r) s = refused 65 ∧
       exec (.acknowledgeAlert r) s = refused 66 ∧ exec (.setSelection r) s = refused 120 ∧
       exec (.linkRestart r) s = refused 72))

/-- A take of pages is granted whole when the class's quota and, for distress-class text, the reserve have room: the pages
make the record's chain, charged to the quota first; otherwise it is answered quota full with what stands there, counted.

SEND MESSAGE is judged in order: destination, class and length; class 1; an intake in progress; 16 records; pages.
Accepted, it makes a record in INTAKE with its pages taken, and opens the intake for the asking station; with no pages the
store is as the take leaves it. -/
def Obligations.SendMessageOpensAnIntake : Prop :=
  (∀ (store : TextStore) (key : RecKey) (cls : StoreClass) (distress : Bool) (n : Nat), store.chain key = none →
    let room := store.quota.get cls - store.quotaCount cls
    let spare := if distress then 16 - store.reserveInUse else 0
    (n ≤ room + spare → store.take key cls distress n = (.granted, { store with chains := store.chains ++
      [{ key := key, cls := cls, distress := distress, text := [],
         charges := List.replicate (min n room) false ++ List.replicate (n - min n room) true }] })) ∧
    (room + spare < n → store.take key cls distress n =
      (.quotaFull cls (store.quota.get cls) (store.quotaCount cls) store.reserveInUse distress,
        { store with full := store.full.set cls (min 65535 (store.full.get cls + 1)) }))) ∧
  ∀ (s : State) (r : Request) (dest cls length : Nat), s.takes r → numAt r.params 0 3 = some dest →
    numAt r.params 3 1 = some cls → numAt r.params 4 2 = some length →
    let valid := 10000 ≤ dest ∧ dest ≤ 99999 ∧ s.cfg.ownCall ≠ some dest ∧ cls ≤ 3 ∧ 1 ≤ length ∧ length ≤ 4000
    (¬ valid → exec (.sendMessage r) s = .next (s.result 96 r .invalid [])) ∧
    (valid → cls = 1 → exec (.sendMessage r) s = .next (s.result 96 r .notAllowed [])) ∧
    (valid → cls ≠ 1 → s.port.intake ≠ none → exec (.sendMessage r) s = .next (s.result 96 r .busy [])) ∧
    (valid → cls ≠ 1 → s.port.intake = none →
      (16 ≤ s.q.out.length → exec (.sendMessage r) s = .next (s.result 96 r .full [])) ∧
      let ref := s.q.nextOutRef
      let taken := s.store.take (.out ref) .outgoing (cls = 3) (pagesFor length)
      (s.q.out.length < 16 → taken.1 ≠ .granted →
        exec (.sendMessage r) s = .next (State.result { s with store := taken.2 } 96 r .full [])) ∧
      (s.q.out.length < 16 → taken.1 = .granted →
        ∃ t u, exec (.sendMessage r) s = .next t ∧ t = State.result u 96 r .accepted [.num 1 ref] ∧
          t.port.intake = some { station := r.src, tag := r.tag, ref := ref, length := length, received := 0,
                                 expected := 0, substituted := 0, last := s.now } ∧
          (∃ o ∈ t.q.out, o.ref = ref ∧ o.dest = dest ∧ o.cls = cls ∧ o.length = length ∧ o.state = .intake ∧
            o.offset = 0 ∧ o.attempts = 0) ∧
          t.q.out.length = s.q.out.length + 1 ∧ (∀ o ∈ s.q.out, o ∈ t.q.out) ∧ t.store = taken.2 ∧
          t.link = s.link ∧ t.enc = s.enc ∧ t.dis = s.dis ∧ t.tally = s.tally))

/-- TEXT: with no transfer open, or from another station, a stray frame; the expected sequence with all its bytes but not
the last is written; with the last the record is QUEUED and the transfer closed, and its SEND MESSAGE is answered DONE with
the reference, the length and the substituted count; a repeat only restarts the 5 s; another sequence abandons the transfer, and so do 5 s without a
fragment: the record is removed with its chain, and the result says the cause. The causes' codes are log entry 44, and that
sequence 255 is a repeat while 0 is expected is log entry 33 (both DEDUCED). -/
def Obligations.TextFillsTheIntake : Prop :=
  ∀ (s : State) (src seq : Byte) (bytes : List Byte), s.hears src → bytes ≠ [] → bytes.length ≤ 7 →
    let stray : State := { s with port := { s.port with stray := min 65535 (s.port.stray + 1) } }
    (s.port.intake = none → exec (.text src seq bytes) s = .next stray) ∧
    ∀ i, s.port.intake = some i →
      let abandoned (cause : Nat) : State := State.result { s with
        port := { s.port with intake := none, abandoned := min 65535 (s.port.abandoned + 1) },
        store := s.store.free (.out i.ref),
        q := { s.q with out := s.q.out.filter fun o => o.ref ≠ i.ref } } 96
        { src := i.station, tag := i.tag, params := [] } .invalid [.num 1 i.ref, .num 1 cause, .num 2 i.received]
      (src ≠ i.station → exec (.text src seq bytes) s = .next stray) ∧
      (src = i.station → seq = i.expected → bytes.length = 7 → i.received + 7 < i.length →
        exec (.text src seq bytes) s = .next { s with
          store := s.store.write (.out i.ref) (bytes.map intakeCode),
          port := { s.port with intake := some { i with
            received := i.received + 7, expected := i.expected + 1, last := s.now,
            substituted := i.substituted + (bytes.filter substituted).length } } }) ∧
      (src = i.station → seq = i.expected → i.received < i.length → i.length ≤ i.received + bytes.length →
        ∃ t u, exec (.text src seq bytes) s = .next t ∧ t.port.intake = none ∧
          t = State.result u 96 { src := i.station, tag := i.tag, params := [] } .done [.num 1 i.ref, .num 2 i.length,
            .num 2 (i.substituted + ((bytes.take (i.length - i.received)).filter substituted).length)] ∧
          u.port = { s.port with intake := none } ∧
          t.q = { s.q with out := s.q.out.map fun o =>
            if o.ref = i.ref then { o with state := .queued, told := true } else o } ∧
          t.store = s.store.write (.out i.ref) ((bytes.take (i.length - i.received)).map intakeCode)) ∧
      (src = i.station → seq = i.expected → bytes.length < min 7 (i.length - i.received) →
        exec (.text src seq bytes) s = .next (abandoned 0)) ∧
      (src = i.station → seq ≠ i.expected → seq = i.expected - 1 → exec (.text src seq bytes) s =
        .next { s with port := { s.port with intake := some { i with last := s.now } } }) ∧
      (src = i.station → seq ≠ i.expected → seq ≠ i.expected - 1 → exec (.text src seq bytes) s =
        .next (abandoned 1)) ∧
      (i.last + 5000 ≤ s.now → exec .intakeTimeout s = .next (abandoned 2))

/-- CANCEL MESSAGE is open to any station: an unknown reference, a report, a record in INTAKE and one ACTIVE are refused,
each in its way, and change nothing; a QUEUED record is removed with its chain and nothing but the result is sent. -/
def Obligations.CancelMessageRemovesAQueuedRecord : Prop :=
  ∀ (s : State) (r : Request) (ref : Byte) (rest : List Byte), s.takes r → r.params = ref :: rest →
    (s.outRec ref.toNat = none → exec (.cancelMessage r) s = .next (s.result 98 r .invalid [])) ∧
    ∀ x, s.outRec ref.toNat = some x →
      (x.cls = 1 → exec (.cancelMessage r) s = .next (s.result 98 r .notAllowed [])) ∧
      (x.cls ≠ 1 → x.state = .intake → exec (.cancelMessage r) s = .next (s.result 98 r .state [])) ∧
      (x.cls ≠ 1 → x.state = .active → exec (.cancelMessage r) s = .next (s.result 98 r .busy [])) ∧
      (x.cls ≠ 1 → x.state = .queued → exec (.cancelMessage r) s = .next (State.result { s with
        store := s.store.free (.out ref.toNat),
        q := { s.q with out := s.q.out.filter fun o => o.ref ≠ ref.toNat } } 98 r .done []))

/-- READ MESSAGE and READ BULLETIN of a record named: REFUSED-BUSY while a readout is open, REFUSED-INVALID for no such
record, REFUSED-STATE for one that cannot be read now; otherwise the record is READING and the readout is open from its
first character.

The open readout: with fewer than 4 frames queued and 10 ms since the last, the next up to 7 characters are placed
under the next sequence; when all are carried, END OF TEXT; and 5 s with no frame carried end it without, its frames
discarded. A frame of it that went out at that moment is then counted as carried for no message: log entry 58 (DESIGN
CHOICE). -/
def Obligations.ReadoutOpensAndSendsItsText : Prop :=
  (∀ (s : State) (r : Request) (n : Nat), s.takes r → selectorAt r.params 1 = some (.one n) →
     let readout (key : RecKey) (total : Nat) : Readout :=
       { station := r.src, tag := r.tag, key := key, total := total, next := 0, seq := 0, fragments := 0,
         placed := none, waiting := 0, endPlaced := false, carriedAt := s.now }
     (s.port.readout ≠ none → exec (.readMessage r) s = .next (s.result 105 r .busy []) ∧
       exec (.readBulletin r) s = .next (s.result 104 r .busy [])) ∧
     (s.port.readout = none →
       (s.incRec n = none → exec (.readMessage r) s = .next (s.result 105 r .invalid [])) ∧
       (∀ x, s.incRec n = some x →
         (x.state = .receiving ∨ x.state = .reading →
           exec (.readMessage r) s = .next (s.result 105 r .state [])) ∧
         (x.state = .partly ∨ x.state = .complete → ∃ t, exec (.readMessage r) s = .next t ∧
           t.port.readout = some (readout (.inc n) (s.store.textOf (.inc n)).length) ∧
           t.q = { s.q with inc := s.q.inc.map fun y =>
             if y.ref = n then { y with state := .reading, before := some y.state } else y } ∧
           t.store = s.store ∧ t.link = s.link)) ∧
       (s.bulRec n = none → exec (.readBulletin r) s = .next (s.result 104 r .invalid [])) ∧
       ∀ x, s.bulRec n = some x →
         (x.state ≠ .held → exec (.readBulletin r) s = .next (s.result 104 r .state [])) ∧
         (x.state = .held → ∃ t, exec (.readBulletin r) s = .next t ∧
           t.port.readout = some (readout (.bul n) x.c) ∧
           t.bul = { s.bul with recs := s.bul.recs.map fun y =>
             if y.index = n then { y with state := .reading } else y } ∧
           t.store = s.store ∧ t.link = s.link))) ∧
  (∀ (s : State) (x : Readout), s.resetLow = false → s.port.readout = some x →
     (x.next < x.total → s.port.held < 4 → (∀ t, x.placed = some t → t + 10 ≤ s.now) →
       let k := min 7 (x.total - x.next)
       let m : OutMsg :=
         { kind := .readoutText x.station x.seq (((s.store.textOf x.key).drop x.next).take k), content := [],
           carried := 0 }
       exec .readoutText s = .next { s with port := { s.port.place m with readout := some { x with
         next := x.next + k, seq := x.seq + 1, fragments := x.fragments + 1, placed := some s.now,
         waiting := x.waiting + 1 } } }) ∧
     (x.total ≤ x.next → x.waiting = 0 → x.endPlaced = false → s.port.held < 4 →
       let m : OutMsg := { kind := .endOfText x.station x.tag x.next x.fragments, content := [], carried := 0 }
       exec .endOfText s = .next { s with port := { s.port.place m with readout := some { x with endPlaced := true } } }) ∧
     (x.carriedAt + 5000 ≤ s.now → ∃ t, exec .readoutStall s = .next t ∧ t.port.readout = none ∧
       t.port.unfinished = min 65535 (s.port.unfinished + 1) ∧
       (∀ m ∈ t.port.waiting, m.ofReadout = false) ∧
       (∀ m, s.port.current = some m → m.ofReadout = true →
         t.port.droppedAt = some s.now ∧ ∀ w, t.port.current = some w → w.ofReadout = false) ∧ t.link = s.link ∧ t.enc = s.enc ∧
       (∀ n, x.key = .bul n → t.q = s.q ∧ t.store = s.store ∧ t.bul = { s.bul with recs := s.bul.recs.map fun y =>
         if y.index = n then { y with state := .held } else y }))) ∧
  (∀ s : State, s.resetLow = false → s.port.droppedAt = some s.now →
     exec .frameCarried s = .next { s with port := { s.port with droppedAt := none } })

/-- The outgoing frame queue: sending stops and resumes with the wire; a frame carried counts toward its message, and with
its last frame the next message starts, a notice of priority 0 first; a message that does not fit whole is only counted
lost. Starting the next message at once, and FRAME_CARRIED with none started leaving the state, is log entry 35 (DEDUCED).

With a readout open each frame carried starts its 5 s again; READOUT TEXT is one frame less of it waiting; END OF TEXT ends
it, a bulletin being HELD and read, a message leaving the list with its chain. -/
def Obligations.OutgoingQueueSendsWholeMessages : Prop :=
  (∀ s : State, s.resetLow = false →
    exec .sendingStops s = .next { s with port := { s.port with stopped := true } } ∧
    exec .sendingResumes s = .next { s with port := Port.startNext { s.port with stopped := false } } ∧
    (s.port.droppedAt ≠ some s.now → s.port.current = none → exec .frameCarried s = .next s) ∧
    (∀ m, s.port.droppedAt ≠ some s.now → s.port.current = some m →
      let p : Port := if m.carried + 1 < m.frames
        then { s.port with current := some { m with carried := m.carried + 1 } }
        else Port.startNext { s.port with current := none }
      (s.port.readout = none → exec .frameCarried s = .next { s with port := p }) ∧
      ∀ x, s.port.readout = some x →
        let ended : Port := { p with readout := none }
        (m.ofReadout = false → exec .frameCarried s =
          .next { s with port := { p with readout := some { x with carriedAt := s.now } } }) ∧
        (∀ dest seq codes, m.kind = .readoutText dest seq codes → exec .frameCarried s =
          .next { s with port := { p with readout := some { x with carriedAt := s.now, waiting := x.waiting - 1 } } }) ∧
        (∀ dest tag chars fragments, m.kind = .endOfText dest tag chars fragments →
          (∀ n, x.key = .bul n → exec .frameCarried s = .next { s with
            port := ended,
            bul := { s.bul with recs := s.bul.recs.map fun y =>
              if y.index = n then { y with state := .held, read := true } else y } }) ∧
          (∀ n, x.key = .inc n → exec .frameCarried s = .next { s with
            port := ended, store := s.store.free (.inc n),
            q := { s.q with inc := s.q.inc.filter fun y => y.ref ≠ n } })))) ∧
  ∀ p : Port,
    (p.stopped = true ∨ p.current ≠ none → p.startNext = p) ∧
    (∀ m rest, p.stopped = false → p.current = none → p.waiting = m :: rest →
      ((∀ x ∈ rest, x.urgent = false) ∨ m.urgent = true →
        p.startNext = { p with current := some m, waiting := rest }) ∧
      ((∃ x ∈ p.waiting, x.urgent = true) → ∃ x, p.startNext.current = some x ∧ x.urgent = true)) ∧
    ∀ m, (64 < p.held + m.frames → p.place m = { p with lost := min 65535 (p.lost + 1) }) ∧
      (p.held + m.frames ≤ 64 → p.stopped = true ∨ p.current ≠ none →
        p.place m = { p with waiting := p.waiting ++ [m] })

/-- SET AUX replaces one line's requested level, DONE or, under a distress mode that overrides the line, ACCEPTED; a line
outside 0–3 or another level is REFUSED-INVALID, with no content (log entry 81, DESIGN CHOICE). SET SELECTION replaces both
sets, G, D and S set in the first. -/
def Obligations.SetAuxAndSelectionReplaceTheirValues : Prop :=
  ∀ (s : State) (r : Request), s.takes r →
    (∀ (i lv : Byte) (rest : List Byte), r.params = i :: lv :: rest →
      (3 < i.toNat ∨ 2 < lv.toNat → exec (.setAux r) s = .next (s.result 121 r .invalid [])) ∧
      (∀ level, i.toNat ≤ 3 → auxLevelOf lv.toNat = some level →
        let t : State := { s with lines := { s.lines with aux := s.lines.aux.set i.toNat level } }
        let answer (code : ResultCode) : Host.Outcome State Fault Refusal :=
          .next (t.result 121 r code [.num 1 i.toNat, .num 1 level.ctorIdx, .num 1 (t.auxDriven i.toNat).ctorIdx])
        (s.dis.own = .none ∨ s.cfg.auxModes.getD i.toNat .hold = .hold → exec (.setAux r) s = answer .done) ∧
        (s.dis.own ≠ .none → s.cfg.auxModes.getD i.toNat .hold ≠ .hold → exec (.setAux r) s = answer .accepted))) ∧
    ∀ subjects areas, s.bridge r.src → lettersAt r.params 0 = some subjects → lettersAt r.params 26 = some areas →
      let forced := subjects ||| BitVec.ofNat 26 (2 ^ 3 + 2 ^ 6 + 2 ^ 18)
      exec (.setSelection r) s = .next (State.result
        { s with bul := { s.bul with subjects := forced, areas := areas } } 120 r .done
        (letterFlags forced ++ letterFlags areas))

/-- LINK RESTART: DONE, with the decoder in HUNTING and its window empty, KEY released and no linked request left, no
session, the link controller in IDLE, the overheard link gone and the clear-interval timer from zero; the catch tally, the
lines, the clock and the configuration are kept. That the accumulator holds no value is log entry 15 (DEDUCED).

The distress unit keeps its state, but for the hold of a burst given back, for a relay or DCANCEL that a session of class 3
held back, and for a distress frame in progress, which is handed cut short. The bulletin receiver, with no bulletin in
progress, is kept. A session running: an ACTIVE record is QUEUED, its offset and attempt count kept, and a RECEIVING one
PARTIAL; with none running the queues are kept. -/
def Obligations.LinkRestartLeavesTheRestartedState : Prop :=
  ∀ (s : State) (r : Request), s.takes r → s.bridge r.src → ∃ t u, exec (.linkRestart r) s = .next t ∧
    t = State.result u 72 r .done [] ∧
    t.dec.sync = .hunting ∧ t.dec.window = [] ∧ t.dec.stream = Stream.empty ∧ t.dec.acc = none ∧
    t.key = false ∧ t.enc.link = none ∧
    (∀ b, s.enc.burst = some b → t.enc.burst = some b) ∧ (∀ f, s.enc.frame = some f → t.enc.frame = some f) ∧
    t.link.phase = .idle ∧
    t.nm.half = none ∧ t.nm.overheard = none ∧ t.nm.clear = false ∧ t.nm.busy = t.judgedBusy ∧
    t.nm.clearStart = (if t.nm.busy then none else some s.now) ∧
    t.tally = s.tally ∧ t.lines = s.lines ∧ t.clock = s.clock ∧ t.cfg = s.cfg ∧ t.recd = s.recd ∧
    t.port.window = s.port.window ∧ t.port.assemblies = s.port.assemblies ∧ t.port.intake = s.port.intake ∧
    t.port.bridge = s.port.bridge ∧
    ((∀ type n sum fields, s.dec.sync = .spreadSync → s.dec.stream.frame ≠ .distress type n sum fields) →
      t.dis = { s.dis with heldSince := t.dis.heldSince, holdDone := t.dis.holdDone,
                           queue := t.dis.queue, list := t.dis.list } ∧
      (s.enc.inFlight = none → t.dis.heldSince = s.dis.heldSince ∧ t.dis.holdDone = s.dis.holdDone) ∧
      (s.dis.queue = [] ∨ s.link.phase.running = false →
        t.dis.queue = s.dis.queue ∧ t.dis.list = s.dis.list)) ∧
    (s.receivingBul = none → s.bul.suspended = none → t.bul = s.bul) ∧
    (∀ x, s.link.phase.running = true → s.link.session = some x →
      t.q.out.map (fun o => (o.ref, o.state, o.offset, o.attempts, o.nextEligible)) =
        s.q.out.map (fun o =>
          (o.ref, if o.state = .active then .queued else o.state, o.offset, o.attempts, o.nextEligible)) ∧
      t.q.inc = s.q.inc.map fun r => if r.state = .receiving
        then { r with state := .partly, lastChange := s.now, changeTod := s.tod } else r) ∧
    (s.link.phase.running = false → t.q = s.q)

/-! ### Configuration and STATUS -/

/-- While the window is open a numeric CONFIGURE item is recorded, clamped to its range, and answered DONE with the item,
the value as recorded and the mark (0 as given, 1 clamped), a clamped one being counted; the nearest of 10, 50 and 200 ms
is recorded for the CD filter time. Nothing else changes.

While the window is open: a call out of its range is defaulted to none; a mode, rule or filter that is no value of its
item is defaulted; quotas are recorded as given; bridge stations are the first 4, without 255, the own number and repeats.

The mark of a moved CD filter time and of bridge stations is log entry 31 (DEDUCED), the form of an absent call in the
answer log entry 4, and that of the list of bridge stations log entry 85 (both DESIGN CHOICE). -/
def Obligations.ConfigureRecordsNumbersNamesAndStations : Prop :=
  (∀ (s : State) (r : Request) (n : Nat), s.takes r → s.windowOpen →
     let raised (asGiven : Bool) : Nat :=
       if asGiven then s.port.adjustments else min 65535 (s.port.adjustments + 1)
     let nearest : Nat := if n < 30 then 10 else if n < 125 then 50 else 200
     let done (item w m : Nat) (x : Recorded) : Host.Outcome State Fault Refusal := .next (State.result
       { s with recd := x, port := { s.port with adjustments := raised (m = n) } }
       80 r .done [.num 1 item, .num w m, .num 1 (if m = n then 0 else 1)])
     (numAt r.params 0 1 = some n →
       exec (.configureCloseHour r) s = done 12 1 (min 23 n)
         { s.recd with settings := { s.recd.settings with closeHour := min 23 n } } ∧
       exec (.configureReportDeadline r) s = done 13 1 (max 1 (min 24 n))
         { s.recd with settings := { s.recd.settings with deadline := max 1 (min 24 n) } } ∧
       exec (.configureCallThreshold r) s = done 16 1 (min 100 n)
         { s.recd with settings := { s.recd.settings with threshold := min 100 n } } ∧
       exec (.configurePageLimit r) s = done 19 1 (max 4 (min 32 n))
         { s.recd with settings := { s.recd.settings with pageLimit := max 4 (min 32 n) } } ∧
       exec (.configureCdFilterTime r) s = done 7 1 nearest
         { s.recd with settings := { s.recd.settings with cdFilter := nearest } }) ∧
     (numAt r.params 0 2 = some n →
       exec (.configureNextSerial r) s = done 14 2 (max 1 (min 999 n))
         { s.recd with nextSerial := some (max 1 (min 999 n)) } ∧
       exec (.configureWatchInterval r) s = done 15 2 (max 60 (min 600 n))
         { s.recd with settings := { s.recd.settings with watchInterval := max 60 (min 600 n) } } ∧
       exec (.configureGoodLimit r) s = done 17 2 (min 1000 n)
         { s.recd with settings := { s.recd.settings with goodLimit := min 1000 n } } ∧
       exec (.configurePoorLimit r) s = done 18 2 (min 1000 n)
         { s.recd with settings := { s.recd.settings with poorLimit := min 1000 n } })) ∧
  (∀ (s : State) (r : Request), s.takes r → s.windowOpen →
     let raised (asGiven : Bool) : Nat :=
       if asGiven then s.port.adjustments else min 65535 (s.port.adjustments + 1)
     let done (item mark : Nat) (echo : List Field) (x : Recorded) : Host.Outcome State Fault Refusal :=
       .next (State.result
         { s with recd := x, port := { s.port with adjustments := raised (mark = 0) } }
         80 r .done ([.num 1 item] ++ echo ++ [.num 1 mark]))
     (∀ n, numAt r.params 0 3 = some n →
       exec (.configureOwnCall r) s = (if 10000 ≤ n ∧ n ≤ 89999
         then done 1 0 [.num 3 n] { s.recd with settings := { s.recd.settings with ownCall := some n } }
         else done 1 2 [.absent 3] { s.recd with settings := { s.recd.settings with ownCall := none } }) ∧
       exec (.configurePortOffice r) s = (if 90000 ≤ n ∧ n ≤ 99999
         then done 2 0 [.num 3 n] { s.recd with settings := { s.recd.settings with portOffice := some n } }
         else done 2 2 [.absent 3] { s.recd with settings := { s.recd.settings with portOffice := none } })) ∧
     (∀ n, numAt r.params 0 1 = some n →
       (∀ m, relayModeOf n = some m → exec (.configureRelayMode r) s = done 5 0 [.num 1 n]
         { s.recd with settings := { s.recd.settings with relayMode := m } }) ∧
       (2 < n → exec (.configureRelayMode r) s = done 5 2 [.num 1 1]
         { s.recd with settings := { s.recd.settings with relayMode := .bridge } }) ∧
       (∀ m, busyRuleOf n = some m → exec (.configureBusyRule r) s = done 6 0 [.num 1 n]
         { s.recd with settings := { s.recd.settings with busyRule := m } }) ∧
       (1 < n → exec (.configureBusyRule r) s = done 6 2 [.num 1 0]
         { s.recd with settings := { s.recd.settings with busyRule := .any } }) ∧
       (∀ m, originFilterOf n = some m → exec (.configureOriginFilter r) s = done 11 0 [.num 1 n]
         { s.recd with origins := m }) ∧
       (1 < n → exec (.configureOriginFilter r) s = done 11 2 [.num 1 0] { s.recd with origins := .any })) ∧
     (∀ b i o, numAt r.params 0 2 = some b → numAt r.params 2 2 = some i → numAt r.params 4 2 = some o →
       exec (.configureQuotas r) s = done 4 0 [.num 2 b, .num 2 i, .num 2 o]
         { s.recd with quotas := some { bulletin := b, incoming := i, outgoing := o } }) ∧
     ∃ kept, exec (.configureBridgeStations r) s = done 3 (if kept = r.params then 0 else 1)
         (kept.map fun b => .num 1 b.toNat) { s.recd with bridge := kept } ∧
       kept.length ≤ 4 ∧ kept.Nodup ∧ (∀ b ∈ kept, b ∈ r.params ∧ b ≠ 255 ∧ b ≠ s.port.station) ∧
       kept.Sublist r.params ∧
       (∀ before b after, r.params = before ++ b :: after → b ≠ 255 → b ≠ s.port.station → b ∉ before → b ∉ kept →
         kept.length = 4 ∧ ∀ k ∈ kept, k ∈ before))

/-- While the window is open: schedule windows are added one by one, the duration clamped to 1–60, a ninth REFUSED-FULL
and one out of range REFUSED-INVALID; a clear removes them; a selection has G, D and S set in its subjects; an AUX
distress mode is recorded for a line 0–3, HOLD for no mode. The mark of a selection whose letters were forced, and the
adjustment it counts, is log entry 31 (DEDUCED), and that a ninth window out of range is REFUSED-INVALID log entry 88
(DESIGN CHOICE). -/
def Obligations.ConfigureRecordsWindowsSelectionAndModes : Prop :=
  ∀ (s : State) (r : Request), s.takes r → s.windowOpen →
    let raised (asGiven : Bool) : Nat :=
      if asGiven then s.port.adjustments else min 65535 (s.port.adjustments + 1)
    let done (item mark : Nat) (echo : List Field) (x : Recorded) : Host.Outcome State Fault Refusal :=
      .next (State.result
        { s with recd := x, port := { s.port with adjustments := raised (mark = 0) } }
        80 r .done ([.num 1 item] ++ echo ++ [.num 1 mark]))
    (∀ w, windowOf r.params = some w →
      let right := 90000 ≤ w.coast ∧ w.coast ≤ 99999 ∧ w.start ≤ 1439 ∧
        ∀ c ∈ [w.origin1, w.origin2, w.subject], 65 ≤ c ∧ c ≤ 90
      let d := max 1 (min 60 w.duration)
      (¬ right → exec (.configureScheduleWindow r) s = .next (s.result 80 r .invalid [])) ∧
      (right → 8 ≤ s.recd.windows.length →
        exec (.configureScheduleWindow r) s = .next (s.result 80 r .full [])) ∧
      (right → s.recd.windows.length < 8 →
        exec (.configureScheduleWindow r) s = done 8 (if d = w.duration then 0 else 1)
          [.num 3 w.coast, .text [w.origin1, w.origin2], .num 2 w.start, .num 1 d, .text [w.subject], flag w.quiet]
          { s.recd with windows := s.recd.windows ++ [{ w with duration := d }] })) ∧
    exec (.configureClearSchedule r) s = done 9 0 [] { s.recd with windows := [] } ∧
    (∀ subjects areas, lettersAt r.params 0 = some subjects → lettersAt r.params 26 = some areas →
      let forced := subjects ||| BitVec.ofNat 26 (2 ^ 3 + 2 ^ 6 + 2 ^ 18)
      exec (.configureInitialSelection r) s = done 10 (if forced = subjects then 0 else 1)
        (letterFlags forced ++ letterFlags areas) { s.recd with selection := some (forced, areas) }) ∧
    ∀ line n, numAt r.params 0 1 = some line → numAt r.params 1 1 = some n →
      let recorded (m : AuxMode) : Recorded :=
        { s.recd with settings := { s.recd.settings with auxModes := s.recd.settings.auxModes.set line m } }
      (3 < line → exec (.configureAuxDistressMode r) s = .next (s.result 80 r .invalid [])) ∧
      (line ≤ 3 → ∀ m, auxModeOf n = some m →
        exec (.configureAuxDistressMode r) s = done 20 0 [.num 1 line, .num 1 n] (recorded m)) ∧
      (line ≤ 3 → 3 < n →
        exec (.configureAuxDistressMode r) s = done 20 2 [.num 1 line, .num 1 0] (recorded .hold))

/-- CONFIG CLOSED, by CONFIGURE DONE or at 30 s: the recorded values come into force together, the window closes, and the
link controller's next consideration is set 5 s on.

The station table having places for them all, the port office and the windows' coast stations, if R53 admits the calls, are
pinned PORT and SCHEDULE; one not yet in the table starts at Q 2048, never heard and QUIET, one in it keeps its Q, heard
count and last heard. The hour close, with the clock set, is armed with the day count of the latest close instant under the
close hour now in force; one armed stays, and with the clock unset none is.

The CONFIG CLOSED notice is placed, with its cause and source, own call, port office, numbers of bridge stations and of
windows, whether the quota set was replaced, and adjusted-items count; before it the LINE CHANGE of a CD candidate that has
stood for the filter time now in force. Then CONFIGURE DONE is answered DONE. The codes of the cause are its places in R214's
list.

Once closed, every CONFIGURE and CONFIGURE DONE is REFUSED-STATE and changes nothing more. That with no initial selection recorded the sets in force stay is log entry 67 (DESIGN CHOICE). -/
def Obligations.ConfigClosedPutsValuesInForceOnce : Prop :=
  ∀ s : State,
    (let valid (q : PerClass) : Bool := 32 ≤ q.bulletin ∧ 32 ≤ q.incoming ∧ 32 ≤ q.outgoing ∧
      q.bulletin + q.incoming + q.outgoing = 496 ∧ s.store.quotaCount .bulletin ≤ q.bulletin ∧
      s.store.quotaCount .incoming ≤ q.incoming ∧ s.store.quotaCount .outgoing ≤ q.outgoing
    let admitted (call : Nat) : Prop := 10000 ≤ call ∧ call ≤ 99999 ∧ s.recd.settings.ownCall ≠ some call
    let entered (t : State) (call : Nat) (pinned : Station → Prop) : Prop := ∃ e, t.station call = some e ∧ pinned e ∧
      (s.station call = none → e.q = 2048 ∧ e.heardCount = 0 ∧ e.lastHeard = none ∧ e.state = .quiet) ∧
      ∀ o, s.station call = some o → e.q = o.q ∧ e.heardCount = o.heardCount ∧ e.lastHeard = o.lastHeard
    let opened : Port := { s.port with window := none, bridge := s.recd.bridge }
    let cd := s.lines.cd
    let level (asserted : Bool) : Field := .num 1 (if asserted then 0 else 1)
    let withCd : Port := opened.notice 50 [.num 1 3, level !cd.asserted, level s.lines.dis.asserted,
      level s.lines.cnl.asserted, level s.lines.txinh.asserted, level !cd.asserted, .num 2 (min 65535 (cd.changes + 1)),
      todOr s.tod]
    let told (source : Option Byte) (t : State) (port : Port) : Prop :=
      let content : List Field := [.num 1 (if source = none then 0 else 1), numOr 1 (source.map (·.toNat)),
        callOr s.recd.settings.ownCall, callOr s.recd.settings.portOffice, .num 1 s.recd.bridge.length,
        .num 1 s.recd.windows.length, flag t.store.replacedQuotas, .num 2 s.port.adjustments]
      (∀ c, cd.candidate = some c → c + s.recd.settings.cdFilter ≤ s.now → port = withCd.notice 2 content) ∧
      ((∀ c, cd.candidate = some c → s.now < c + s.recd.settings.cdFilter) → port = opened.notice 2 content)
    let closed (t : State) : Prop :=
      t.cfg = s.recd.settings ∧ t.port.bridge = s.recd.bridge ∧ t.port.window = none ∧ t.recd = s.recd ∧
      t.bul.origins = s.recd.origins ∧ (∀ sel, s.recd.selection = some sel → t.bul.subjects = sel.1 ∧ t.bul.areas = sel.2) ∧
      (s.recd.selection = none → t.bul.subjects = s.bul.subjects ∧ t.bul.areas = s.bul.areas) ∧
      t.bul.windows.map (·.win) = s.recd.windows ∧ t.tally.serial = s.recd.nextSerial.getD s.tally.serial ∧
      t.tally.hauls = s.tally.hauls ∧ t.tally.rows = s.tally.rows ∧
      (s.recd.quotas = none → t.store = s.store) ∧
      (∀ q, s.recd.quotas = some q → t.store.chains = s.store.chains ∧
        t.store.quota = (if valid q then q else { bulletin := 192, incoming := 128, outgoing := 176 }) ∧
        t.store.replacedQuotas = (s.store.replacedQuotas || !valid q)) ∧
      t.link.considerAt = s.now + 5000 ∧ t.clock = s.clock ∧
      (∀ d, s.tally.closeDay = some d → t.tally.closeDay = some d) ∧
      (s.tally.closeDay = none → t.tally.closeDay = s.reading.map fun x =>
        if s.recd.settings.closeHour * 3600 ≤ x.secs then x.day else (x.day + 65535) % 65536) ∧
      (s.nm.table.length + s.recd.windows.length + 1 ≤ 24 →
        (∀ c, s.recd.settings.portOffice = some c → admitted c → entered t c fun e => e.pins.port = true) ∧
        ∀ w ∈ s.recd.windows, admitted w.coast → entered t w.coast fun e => e.pins.schedule = true)
    (∀ r, s.takes r → s.windowOpen → ∃ t u, exec (.configureDone r) s = .next t ∧
      t = State.result u 81 r .done [] ∧ closed t ∧ told (some r.src) t u.port) ∧
    (∀ w, s.resetLow = false → s.port.window = some w → w + 30000 ≤ s.now →
      ∃ t, exec .configWindowExpiry s = .next t ∧ closed t ∧ told none t t.port)) ∧
    ∀ r, s.takes r → s.port.window = none →
      exec (.configureDone r) s = .next (s.result 81 r .state []) ∧
      ∀ c ∈ [Instr.configureOwnCall r, .configurePortOffice r, .configureBridgeStations r, .configureQuotas r,
        .configureRelayMode r, .configureBusyRule r, .configureCdFilterTime r, .configureScheduleWindow r,
        .configureClearSchedule r, .configureInitialSelection r, .configureOriginFilter r, .configureCloseHour r,
        .configureReportDeadline r, .configureNextSerial r, .configureWatchInterval r, .configureCallThreshold r,
        .configureGoodLimit r, .configurePoorLimit r, .configurePageLimit r, .configureAuxDistressMode r],
        exec c s = .next (s.result 80 r .state [])

/-- STATUS is taken from any station at any time, answered DONE with the item's content, and changes nothing but the
outgoing frame queue, where the result is placed. The contents of six are spelt out: the net monitor, the receive decoder,
the text store (the order of its classes: log entry 94, DEDUCED) and the clock, a haul and a tally row. That the not-busy interval's time is the clear-interval timer's is
log entry 72 (DESIGN CHOICE). The code of the sync state is log entry 44 (DEDUCED), the forms of absent items are
log entries 4 (DESIGN CHOICE) and 15 (DEDUCED), and that seconds since a moment are whole ones is log entry 65 (DESIGN
CHOICE).

A STATUS of one thing by its index, reference or position: DONE with the thing's content, or REFUSED-INVALID where it
does not stand; a position 0 or above the number of elements does not. Nothing else changes. -/
def Obligations.StatusAnswersAndChangesNothingElse : Prop :=
  (∀ (s : State) (r : Request), s.takes r →
     (∀ c ∈ [Instr.statusLinkController r, .statusNetMonitor r, .statusReceiveDecoder r, .statusOutgoingQueue r,
       .statusIncomingList r, .statusBulletinReceiver r, .statusTextStore r, .statusCatchTally r,
       .statusDistressUnit r, .statusLines r, .statusClock r, .statusBusPort r],
       ∃ content, exec c s = .next (s.result 128 r .done content)) ∧
     (∀ o, s.nm.overheard = some o → o.swapAt = none → exec (.statusNetMonitor r) s = .next (s.result 128 r .done
       [.num 1 s.cfg.busyRule.ctorIdx, flag s.nm.busy, flag s.nm.clear,
         .num 2 (match s.nm.clearStart with
           | some t => min 6000 ((s.now - t) / 100)
           | none => 0),
         flag true, .num 3 o.caller, .num 3 o.called, .num 3 o.sender, flag o.inSession, .num 2 s.nm.rejected,
         .num 2 s.nm.replaced, .num 2 s.nm.unattributed])) ∧
     exec (.statusReceiveDecoder r) s = .next (s.result 128 r .done
       [.num 1 s.dec.sync.ctorIdx, numOr 2 s.dec.acc, numOr 1 (s.dec.acc.map fun q => (100 * q + 2048) / 4096),
         .num 2 s.dec.synced, .num 2 s.dec.losses, .num 2 s.dec.slips, .num 2 s.dec.missed, .num 2 s.dec.unknown]) ∧
     exec (.statusTextStore r) s = .next (s.result 128 r .done
       [.num 2 s.store.quota.bulletin, .num 2 s.store.quota.incoming, .num 2 s.store.quota.outgoing,
         .num 2 (s.store.quotaCount .bulletin), .num 2 (s.store.quotaCount .incoming),
         .num 2 (s.store.quotaCount .outgoing), .num 1 (s.store.reserveCount .bulletin),
         .num 1 (s.store.reserveCount .incoming), .num 1 (s.store.reserveCount .outgoing),
         .num 1 s.store.reserveInUse, .num 2 s.store.freePages, flag s.store.replacedQuotas,
         .num 2 s.store.full.bulletin, .num 2 s.store.full.incoming, .num 2 s.store.full.outgoing]) ∧
     (∀ p, s.clock.position = some p → exec (.statusClock r) s = .next (s.result 128 r .done (readingOr s.reading ++
       [flag s.clock.ref.isSome, flag s.clock.synced,
         match s.clock.lastTime with
           | some t => .num 2 (min 65535 ((s.now - t) / 1000))
           | none => .absent 2,
         .int 3 p.latitude, .int 4 p.longitude, .num 2 (min 65535 ((s.now - p.arrival) / 1000)),
         .num 2 s.clock.steps, .num 2 s.clock.corrections, .num 2 s.clock.ignoredTimes,
         .num 2 s.clock.ignoredPositions])))) ∧
  (∀ (s : State) (r : Request) (n : Nat), s.takes r → numAt r.params 0 2 = some n →
     let answered (c : Instr) (found : Bool) : Prop :=
       (found = true → ∃ content, exec c s = .next (s.result 128 r .done content)) ∧
       (found = false → exec c s = .next (s.result 128 r .invalid []))
     answered (.statusStationEntry r) (1 ≤ n ∧ n ≤ s.nm.table.length) ∧
     answered (.statusOutgoingRecord r) (s.q.out.any fun o => o.ref = n) ∧
     answered (.statusIncomingRecord r) (s.q.inc.any fun x => x.ref = n) ∧
     answered (.statusBulletinRecord r) (s.bul.recs.any fun b => b.index = n) ∧
     answered (.statusDistressEntry r) (1 ≤ n ∧ n ≤ s.dis.list.length) ∧
     answered (.statusHaulEntry r) (1 ≤ n ∧ n ≤ s.tally.hauls.length) ∧
     answered (.statusTallyRow r) (1 ≤ n ∧ n ≤ s.tally.rows.length) ∧
     (∀ h, 1 ≤ n → s.tally.hauls[n - 1]? = some h → exec (.statusHaulEntry r) s =
       .next (s.result 128 r .done [.num 2 h.number, .text h.species, .text h.area, .num 3 h.weight])) ∧
     (∀ x, 1 ≤ n → s.tally.rows[n - 1]? = some x → exec (.statusTallyRow r) s =
       .next (s.result 128 r .done [.text x.species, .text x.area, .num 3 (min x.sum 999999),
         flag (decide (999999 < x.sum)), .num 1 x.count])))

/-! ### Bulletins as received -/

/-- A header handed: unreadable, it is counted; otherwise the ACTIVE windows it fits are marked heard, and it is counted
FILTERED when the selection lacks it and DUPLICATE when the heard list has it good enough. Else it is stored: a record in
RECEIVING with one page, the oldest candidate given up while a record or a page is lacking, or without one BULLETIN REFUSED.

A body character is written while the pages have room and counted, an erasure too; a full chain takes a page, by giving up
the oldest candidate where it must; at the page limit, or with no page had, the record is truncated, once. A BEGIN in the
body suspends the record until the header after it: the same identity restarts it in place, another closes it cut short
and is judged.

At END the copy is closed whole with its r and P_f. The first copy of an identity never heard is HELD, counted and
announced, and its identity joins the heard list. Beside a HELD copy it is kept in its place when it ranks above it, whole
above cut short and then the lower r, and is otherwise removed; beside a copy being read it is removed. A copy cut short is
truncated, and is kept when it has a character and removed when it has none.

The whole mark 0 and the widths of the counts in BULLETIN REFUSED are log entry 24 (DEDUCED); that a record restarted in
place can be counted truncated again is log entry 68 (DESIGN CHOICE). -/
def Obligations.BulletinsAreJudgedStoredAndKept : Prop :=
  (∀ (s : State) (chars : List (Option Nat)), s.receivingBul = none →
    let counted : Bulletins := { s.bul with headers := min 65535 (s.bul.headers + 1) }
    (readHeader chars = none → s.bulHeader chars =
      { s with bul := { counted with unreadable := min 65535 (s.bul.unreadable + 1) } }) ∧
    ∀ id, readHeader chars = some id →
      let must := id.subject = 71 ∨ id.subject = 68 ∨ id.subject = 83
      let selected := must ∨ (s.bul.subjects.getLsbD (id.subject - 65) = true ∧
        s.bul.areas.getLsbD (id.area - 65) = true ∧ (s.bul.origins = .any ∨
          ∃ w ∈ s.bul.windows, w.win.origin1 = id.origin1 ∧ w.win.origin2 = id.origin2))
      let offered : Bulletins := { counted with windows := s.bul.windows.map fun w =>
        if w.state = .active ∧ w.win.origin1 = id.origin1 ∧ w.win.origin2 = id.origin2 ∧ w.win.subject = id.subject
          then { w with heard := true } else w }
      let known : Prop := id.serial ≠ 0 ∧ ∃ h ∈ s.bul.heardList, h.id = id
      let record : BulRec :=
        { index := s.bul.nextIndex, id := id, start := s.now, startTod := s.tod, c := 0, e := 0, r := none, pf := none,
          ending := none, poor := false, truncated := false, read := false, state := .receiving }
      let distress : Bool := id.subject = 68 || id.subject = 83
      let taken := s.store.take (.bul s.bul.nextIndex) .bulletin distress 1
      (¬ selected → s.bulHeader chars =
        { s with bul := { offered with filtered := min 65535 (s.bul.filtered + 1) } }) ∧
      (selected → id.serial ≠ 0 → ∀ h, s.bul.heardList.find? (fun h => h.id = id) = some h → h.best ≤ s.cfg.goodLimit →
        s.bulHeader chars = { s with bul := { offered with
          duplicate := min 65535 (s.bul.duplicate + 1),
          heardList := s.bul.heardList.map fun x => if x.id = id then { x with lastHeard := s.now } else x } }) ∧
      (selected → ¬ known →
        (s.bul.recs.length < 32 → taken.1 = .granted → s.bulHeader chars = { s with
          store := taken.2, bul := { offered with recs := s.bul.recs ++ [record], index := s.bul.nextIndex } }) ∧
        (32 ≤ s.bul.recs.length → (∀ x ∈ s.bul.recs, x.state ≠ .held) → s.bulHeader chars = { s with
          bul := { offered with storeFull := min 65535 (s.bul.storeFull + 1) },
          port := s.port.notice 21 (id.fields ++ [.num 1 0, .num 2 (s.store.quotaCount .bulletin),
            .num 1 (s.store.reserveCount .bulletin)]) }) ∧
        (∀ old ∈ s.bul.recs, s.bul.recs.length = 32 ∨ (s.bul.recs.length < 32 ∧ taken.1 ≠ .granted) →
          (s.bul.recs.map (·.index)).Nodup → old.state = .held →
          old.read = true → (∀ x ∈ s.bul.recs, x.state = .held → x.read = true → x ≠ old → old.start < x.start) →
          (s.store.free (.bul old.index)).quotaCount .bulletin < s.store.quota.bulletin →
          ∃ x, (s.bulHeader chars).bul.recs = (s.bul.recs.filter fun y => y.index ≠ old.index) ++ [x] ∧ x.id = id ∧
            x.state = .receiving ∧ x.start = s.now ∧ x.c = 0 ∧ (s.bulHeader chars).port = s.port))) ∧
  (∀ (s : State) (r : BulRec) (code : Nat), s.receivingBul = some r → s.bul.suspended = none → r.truncated = false →
    let pages := s.store.pagesOf (.bul r.index)
    let written (store : TextStore) (recs : List BulRec) : State := { s with
      store := store.write (.bul r.index) [code],
      bul := { s.bul with recs := recs.map fun x => if x.index = r.index
        then { x with c := x.c + 1, e := if code = 127 then x.e + 1 else x.e } else x } }
    let cut : Bulletins := { s.bul with
      truncations := min 65535 (s.bul.truncations + 1),
      recs := s.bul.recs.map fun x => if x.index = r.index then { x with truncated := true } else x }
    let take (store : TextStore) := store.take (.bul r.index) .bulletin (r.id.subject = 68 || r.id.subject = 83) 1
    (r.c < 256 * pages → s.bulBody code = written s.store s.bul.recs) ∧
    (256 * pages ≤ r.c → s.cfg.pageLimit ≤ pages → s.bulBody code = { s with bul := cut }) ∧
    (256 * pages ≤ r.c → pages < s.cfg.pageLimit →
      ((take s.store).1 = .granted → s.bulBody code = written (take s.store).2 s.bul.recs) ∧
      ((take s.store).1 ≠ .granted → (∀ x ∈ s.bul.recs, x.state ≠ .held) →
        s.bulBody code = { s with store := (take s.store).2, bul := cut }) ∧
      ∀ old ∈ s.bul.recs, (take s.store).1 ≠ .granted → (s.bul.recs.map (·.index)).Nodup → old.state = .held →
        old.read = true → (∀ x ∈ s.bul.recs, x.state = .held → x.read = true → x ≠ old → old.start < x.start) →
        let freed := (take s.store).2.free (.bul old.index)
        (take freed).1 = .granted →
          s.bulBody code = written (take freed).2 (s.bul.recs.filter fun x => x.index ≠ old.index)) ∧
    ∀ n sum, s.bulBegin n sum = { s with bul := { s.bul with suspended := some (n, sum) } }) ∧
  (∀ (s : State) (r : BulRec) (n sum : Nat), s.receivingBul = some r → s.bul.suspended = some (n, sum) →
    (∀ code, s.bulBody code = s) ∧
    ∀ chars,
      let counted : Bulletins := { s.bul with headers := min 65535 (s.bul.headers + 1) }
      (readHeader chars = some r.id → s.bulHeader chars = { s with
        store := (s.store.cutBack (.bul r.index) 1).lower (.bul r.index) 0,
        bul := { counted with
          suspended := none,
          recs := s.bul.recs.map fun x => if x.index = r.index
            then { x with c := 0, e := 0, truncated := false, start := s.now, startTod := s.tod } else x,
          windows := s.bul.windows.map fun w =>
            if w.state = .active ∧ w.win.origin1 = r.id.origin1 ∧ w.win.origin2 = r.id.origin2 ∧
                w.win.subject = r.id.subject
              then { w with heard := true } else w } }) ∧
      (readHeader chars ≠ some r.id → s.bulHeader chars =
        (State.bulCut { s with bul := counted } .newBegin n sum).judgeHeader (readHeader chars))) ∧
  (∀ (s : State) (r : BulRec) (n sum : Nat), s.receivingBul = some r → s.bul.suspended = none →
    let ratio := erasureRatio r.c r.e
    let closed : BulRec := { r with
      ending := some .whole, r := some ratio, pf := some (framePercent n sum), poor := s.cfg.poorLimit < ratio }
    let t := s.bulEnd n sum
    let kept (left : List BulRec) (replaced : Option Nat) : Prop :=
      t.bul.recs = (left.map fun x => if x.index = r.index then { closed with state := .held } else x) ∧
      t.bul.stored = min 65535 (s.bul.stored + 1) ∧
      t.port = s.port.notice 20 ([.num 1 r.index] ++ r.id.fields ++ [todOr r.startTod, .num 2 r.c, .num 2 r.e,
        .num 2 ratio, .num 1 (framePercent n sum), flag closed.poor, flag r.truncated, .num 1 0, .num 1 0,
        numOr 1 replaced])
    (r.id.serial ≠ 0 → (∀ x ∈ s.bul.recs, x.index ≠ r.index → x.id ≠ r.id) → (∀ h ∈ s.bul.heardList, h.id ≠ r.id) →
      s.bul.heardList.length < 64 → kept s.bul.recs none ∧ t.store = s.store ∧
        t.bul.heardList = s.bul.heardList ++ [{ id := r.id, best := ratio, lastHeard := s.now }]) ∧
    (∀ old ∈ s.bul.recs, r.id.serial ≠ 0 → old.index ≠ r.index → old.id = r.id → old.state = .reading →
      t.bul.recs = s.bul.recs.filter (fun x => x.index ≠ r.index) ∧ t.store = s.store.free (.bul r.index) ∧
      t.bul.stored = s.bul.stored ∧ t.port = s.port) ∧
    ∀ old ∈ s.bul.recs, r.id.serial ≠ 0 → old.index ≠ r.index → old.id = r.id → old.state = .held →
      (∀ x ∈ s.bul.recs, x.index ≠ r.index → x.id = r.id → x = old) →
      (old.ending ≠ some .whole ∨ ratio < old.r.getD 0 →
        kept (s.bul.recs.filter fun x => x.index ≠ old.index) (some old.index) ∧
        t.store = s.store.free (.bul old.index)) ∧
      (old.ending = some .whole → old.r.getD 0 ≤ ratio →
        t.bul.recs = s.bul.recs.filter (fun x => x.index ≠ r.index) ∧ t.store = s.store.free (.bul r.index) ∧
        t.bul.stored = s.bul.stored ∧ t.port = s.port)) ∧
  ∀ (s : State) (r : BulRec) (cause : CutCause) (n sum : Nat), s.receivingBul = some r →
    (∀ x ∈ s.bul.recs, x.index ≠ r.index → x.id ≠ r.id) → (∀ h ∈ s.bul.heardList, h.id ≠ r.id) →
    let t := s.bulCut cause n sum
    let figures := s.bul.suspended.getD (n, sum)
    t.bul.suspended = none ∧ t.bul.truncations = (if r.truncated then s.bul.truncations else min 65535 (s.bul.truncations + 1)) ∧
    t.bul.heardList = s.bul.heardList ∧
    (1 ≤ r.c → t.store = s.store ∧ t.bul.stored = min 65535 (s.bul.stored + 1) ∧
      ∃ x, x.state = .held ∧ x.truncated = true ∧ x.ending = some (.cut cause) ∧ x.c = r.c ∧
        x.pf = some (framePercent figures.1 figures.2) ∧
        t.bul.recs = s.bul.recs.map fun y => if y.index = r.index then x else y) ∧
    (r.c = 0 → t.bul.recs = s.bul.recs.filter (fun x => x.index ≠ r.index) ∧
      t.store = s.store.free (.bul r.index) ∧ t.bul.stored = s.bul.stored ∧ t.port = s.port)

/-! ### The whole part -/

/-- Once the configuration window has closed, the configuration, the bridge station list, the quotas, the origin filter,
the schedule windows and the station number hold until the next reset: no other command changes them, nor does time. -/
def Obligations.ConfigurationHoldsUntilReset : Prop :=
  ∀ s t : State, s.port.window = none → (∀ c rest, s.pending = c :: rest → c.isReset = false) → step s = .next t →
    t.port.window = none ∧ t.inForce = s.inForce

/-- The text store keeps its laws under every step (R37 names them): no class above its quota, the three quotas 496 in
all, at most 16 pages in reserve, and those only of distress-class chains; one chain a record, in its class. -/
def Obligations.TextStoreKeepsItsLawsUnderEveryStep : Prop :=
  ∀ s t : State, s.storeRight → step s = .next t → t.storeRight

/-- A part without an own call never transmits: its encoder stays empty and KEY released, from the state after reset to
the CONFIG CLOSED that brings a call into force (R214 names it listen-only). -/
def Obligations.ListenOnlyPartNeverTransmits : Prop :=
  ∀ s t : State, s.listenOnly → step s = .next t → t.listenOnly

/-- The state after reset meets the invariants that the steps keep. -/
def Obligations.ResetMeetsTheInvariants : Prop :=
  State.reset.qualityRight ∧ State.reset.tally.summed ∧ State.reset.tally.bounded ∧ State.reset.alarmRight ∧
    State.reset.storeRight ∧ State.reset.listenOnly

/-- The character code: the codewords of 0–125 are nine bits with exactly five ones, each read back as its index, and
every nine-bit group with five ones is the codeword of its index.

TXD carries one symbol every 10 ms, each character as its nine bits in order, and is low while KEY is released. -/
def Obligations.CharactersAreSentAsCodewords : Prop :=
  ((∀ i, i < 126 → (codeword i).length = 9 ∧ onesOf (codeword i) = 5 ∧ codeIndex (codeword i) = some i) ∧
   ∀ bits : List Bool, bits.length = 9 →
     (onesOf bits = 5 → ∃ i, i < 126 ∧ codeword i = bits) ∧ (onesOf bits ≠ 5 → codeIndex bits = none)) ∧
  ((∀ s : State, s.key = false → s.txd = false) ∧
   ∀ (s : State) (x : Transmission) (k j c : Nat), s.enc.inFlight = some x → j < 9 → x.slots[k]? = some c →
     x.start + 90 * k + 10 * j ≤ s.now →
     s.now < x.start + 90 * k + 10 * j + 10 → s.key = true ∧ s.txd = (codeword c).getD j false)
end

