-- ==== Sys2Proof/Laws/Identifier.lean ====
section
/-! SUPPORT. The extended identifier of R201: each bit's place, and that a frame and its identifier with its data bytes
say the same. -/

namespace Sys2Proof

/-- Bits 28–26 are the priority, 25–16 the class, 15–8 the destination, 7–0 the source. -/
theorem CanFrame.identifier_getLsbD (f : CanFrame) (i : Nat) : f.identifier.getLsbD i =
    if i < 8 then f.src.getLsbD i else if i < 16 then f.dest.getLsbD (i - 8)
      else if i < 26 then f.cls.getLsbD (i - 16) else f.priority.getLsbD (i - 26) := by
  have h := BitVec.getLsbD_append (x := f.priority ++ f.cls ++ f.dest) (y := f.src) (i := i)
  refine Eq.trans h ?_
  rw [BitVec.getLsbD_append, BitVec.getLsbD_append]
  by_cases h1 : i < 8
  · simp [h1]
  · by_cases h2 : i < 16
    · simp [h1, h2, show i - 8 < 8 by omega]
    · by_cases h3 : i < 26
      · simp [h1, h2, h3, show ¬ i - 8 < 8 by omega, show i - 16 < 10 by omega, Nat.sub_sub]
      · simp [h1, h2, h3, show ¬ i - 8 < 8 by omega, show ¬ i - 16 < 10 by omega, Nat.sub_sub]

/-- A frame is read back from its identifier. -/
theorem CanFrame.ofIdentifier_identifier (f : CanFrame) : CanFrame.ofIdentifier f.identifier f.data = f := by
  obtain ⟨p, c, d, s, data⟩ := f
  simp only [CanFrame.ofIdentifier, CanFrame.mk.injEq, and_true]
  refine ⟨?_, ?_, ?_, ?_⟩ <;>
    (apply BitVec.eq_of_getLsbD_eq; intro i hi
     rw [BitVec.getLsbD_extractLsb', CanFrame.identifier_getLsbD])
  · simp [hi, show ¬ 26 + i < 8 by omega, show ¬ 26 + i < 16 by omega]
  · simp [hi, show ¬ 16 + i < 8 by omega, show 16 + i < 26 by omega]
  · simp [hi, show ¬ 8 + i < 8 by omega, show 8 + i < 16 by omega]
  · simp [hi]

/-- An identifier is that of the frame read from it. -/
theorem CanFrame.identifier_ofIdentifier (id : BitVec 29) (data : List Byte) :
    (CanFrame.ofIdentifier id data).identifier = id := by
  apply BitVec.eq_of_getLsbD_eq
  intro i hi
  rw [CanFrame.identifier_getLsbD]
  simp only [CanFrame.ofIdentifier, BitVec.getLsbD_extractLsb']
  split
  · simp [*]
  · split
    · simp [show i - 8 < 8 by omega, show 8 + (i - 8) = i by omega]
    · split
      · simp [show i - 16 < 10 by omega, show 16 + (i - 16) = i by omega]
      · simp [show i - 26 < 3 by omega, show 26 + (i - 26) = i by omega]

end Sys2Proof
end

