-- ==== Sys2Proof/Laws/State.lean ====
section
/-! SUPPORT. What an update of the state leaves alone. `State.fixed` collects what no block changes in passing: the own
timebase, RESET, the queue, the configuration with the bridge station list, the quotas, the origin filter and the
schedule, the own station number, the configuration window, and the hauls with their tally. Each lemma says that one way
of updating a state, or one function of the model, leaves it as it is; those are simp lemmas, so that no later proof
unfolds a record update. The last lemmas say what the overheard-link record's swap and the end of a window's grace can
do. -/

namespace Sys2Proof.Machine

/-- What no block changes in passing. -/
structure Fixed where
  now : Nat
  resetLow : Bool
  pending : List Instr
  cfg : Settings
  station : Byte
  bridge : List Byte
  window : Option Nat
  quota : PerClass
  hauls : List Haul
  rows : List TallyRow
  origins : OriginFilter
  windows : List Window

/-- See `Fixed`. -/
def State.fixed (s : State) : Fixed :=
  { now := s.now, resetLow := s.resetLow, pending := s.pending, cfg := s.cfg, station := s.port.station,
    bridge := s.port.bridge, window := s.port.window, quota := s.store.quota, hauls := s.tally.hauls,
    rows := s.tally.rows, origins := s.bul.origins, windows := s.bul.windows.map (·.win) }

/-- Blocks of which nothing is fixed. -/
@[simp] theorem State.fixed_blocks (s : State) (gen : Generator) (dec : Decoder) (enc : Encoder) (nm : NetMonitor)
    (link : LinkController) (q : Queues) (dis : Distress) (lines : LineUnit) (clock : Clock) (recd : Recorded) :
    State.fixed { s with gen := gen, dec := dec, enc := enc, nm := nm, link := link, q := q, dis := dis,
                         lines := lines, clock := clock, recd := recd } = s.fixed := rfl

/-- Bulletins with the same origin filter and schedule. -/
theorem State.fixed_bul (s : State) (bul : Bulletins) (h : bul.origins = s.bul.origins)
    (h' : bul.windows.map (·.win) = s.bul.windows.map (·.win)) : State.fixed { s with bul := bul } = s.fixed := by
  simp [State.fixed, h, h']

/-- A port with the same station, bridge list and window. -/
theorem State.fixed_port (s : State) (p : Port) (enc : Encoder) (q : Queues) (recd : Recorded)
    (h : p.station = s.port.station ∧ p.bridge = s.port.bridge ∧ p.window = s.port.window) :
    State.fixed { s with port := p, enc := enc, q := q, recd := recd } = s.fixed := by
  obtain ⟨h1, h2, h3⟩ := h
  simp [State.fixed, h1, h2, h3]

/-- A store with the same quotas. -/
theorem State.fixed_store (s : State) (st : TextStore) (q : Queues)
    (h : st.quota = s.store.quota) : State.fixed { s with store := st, q := q } = s.fixed := by
  simp [State.fixed, h]

/-- A tally with the same hauls and rows. -/
@[simp] theorem State.fixed_tally (s : State) (serial : Nat) (opened : Option Reading) (closes : Nat)
    (closeDay : Option Nat) (pending : Option PendingClose) (watch : List ReportWatch) (late deferrals : Nat) :
    State.fixed { s with tally := { s.tally with
      serial := serial, opened := opened, closes := closes, closeDay := closeDay, pending := pending, watch := watch,
      late := late, deferrals := deferrals } } = s.fixed := rfl

/-- What the outgoing frame queue leaves alone of the port. -/
theorem Port.startNext_same (p : Port) :
    p.startNext.station = p.station ∧ p.startNext.bridge = p.bridge ∧ p.startNext.window = p.window := by
  unfold Port.startNext
  split
  · simp
  · split
    · simp
    · split <;> simp

theorem Port.place_same (p : Port) (m : OutMsg) :
    (p.place m).station = p.station ∧ (p.place m).bridge = p.bridge ∧ (p.place m).window = p.window := by
  unfold Port.place
  split
  · exact Port.startNext_same _
  · simp

theorem Port.notice_same (p : Port) (code : Nat) (content : List Field) :
    (p.notice code content).station = p.station ∧ (p.notice code content).bridge = p.bridge
      ∧ (p.notice code content).window = p.window := by
  simp only [Port.notice]
  split <;> simp [Port.place_same]

theorem Port.carry_same (p : Port) (m : OutMsg) :
    (p.carry m).station = p.station ∧ (p.carry m).bridge = p.bridge ∧ (p.carry m).window = p.window := by
  unfold Port.carry
  split
  · exact Port.startNext_same _
  · simp

theorem Port.dropReadout_same (p : Port) (now : Nat) :
    (p.dropReadout now).station = p.station ∧ (p.dropReadout now).bridge = p.bridge
      ∧ (p.dropReadout now).window = p.window := by
  unfold Port.dropReadout
  simp only
  split
  · split
    · exact Port.startNext_same _
    · simp
  · simp

/-- What the text store's operations leave alone: the quotas. -/
@[simp] theorem TextStore.onChain_quota (t : TextStore) (key : RecKey) (f : Chain → Chain) :
    (t.onChain key f).quota = t.quota := rfl

@[simp] theorem TextStore.addPages_quota (t : TextStore) (key : RecKey) (cls : StoreClass) (distress : Bool)
    (new : List Bool) : (t.addPages key cls distress new).quota = t.quota := by
  unfold TextStore.addPages
  split <;> simp

@[simp] theorem TextStore.take_quota (t : TextStore) (key : RecKey) (cls : StoreClass) (distress : Bool) (n : Nat) :
    (t.take key cls distress n).2.quota = t.quota := by
  unfold TextStore.take
  split <;> simp

@[simp] theorem TextStore.write_quota (t : TextStore) (key : RecKey) (codes : List Nat) :
    (t.write key codes).quota = t.quota := rfl

@[simp] theorem TextStore.free_quota (t : TextStore) (key : RecKey) : (t.free key).quota = t.quota := rfl

@[simp] theorem TextStore.cutBack_quota (t : TextStore) (key : RecKey) (k : Nat) :
    (t.cutBack key k).quota = t.quota := by
  unfold TextStore.cutBack
  split <;> simp

@[simp] theorem TextStore.lower_quota (t : TextStore) (key : RecKey) (n : Nat) : (t.lower key n).quota = t.quota := rfl

/-! ### The overheard-link record and a window's grace -/

/-- What a swap whose cycle has begun does to the record (R57): the other station is sender, and no swap stands. -/
theorem Overheard.settled_of_turned {o : Overheard} {now t : Nat} (h : o.swapAt = some t) (ht : t ≤ now) :
    o.settled now = { o with sender := o.other o.sender, swapAt := none } := by
  simp [Overheard.settled, h, ht]

/-- A record whose swap, if any, has its cycle still to come stands as it is. -/
theorem Overheard.settled_of_waiting {o : Overheard} {now : Nat} (h : ∀ t, o.swapAt = some t → now < t) :
    o.settled now = o := by
  unfold Overheard.settled
  split
  · rename_i t ht
    rw [if_neg (Nat.not_le.mpr (h t ht))]
  · rfl

@[simp] theorem Overheard.settled_caller (o : Overheard) (now : Nat) : (o.settled now).caller = o.caller := by
  unfold Overheard.settled
  split
  · split <;> rfl
  · rfl

@[simp] theorem Overheard.settled_called (o : Overheard) (now : Nat) : (o.settled now).called = o.called := by
  unfold Overheard.settled
  split
  · split <;> rfl
  · rfl

@[simp] theorem Overheard.settled_lastLong (o : Overheard) (now : Nat) : (o.settled now).lastLong = o.lastLong := by
  unfold Overheard.settled
  split
  · split <;> rfl
  · rfl

/-- Everything the end of a window's grace can do: nothing, or the reason W to a session that it breaks (R133). -/
theorem State.endGrace_cases (s : State) (w : LiveWindow) :
    s.endGrace w = s ∨ s.endGrace w = { s with link := { s.link with pendingBreak := some .window } } := by
  unfold State.endGrace State.demandBreak
  split
  · split
    · exact .inr rfl
    · exact .inl rfl
  · exact .inl rfl

end Sys2Proof.Machine
end

