-- ==== Sys2Proof/Laws/Kept.lean ====
section
/-! SUPPORT. What each function of the model leaves alone: `State.fixed` (see Laws/State.lean) is the same after it. One
lemma for each function that answers a state, all simp lemmas, so that a proof about a command need not unfold the
functions that the command goes through. -/

namespace Sys2Proof.Machine

@[simp] theorem State.notice_fixed (s : State) (code : Nat) (content : List Field) :
    (s.notice code content).fixed = s.fixed :=
  s.fixed_port _ s.enc s.q s.recd (Port.notice_same _ _ _)

@[simp] theorem State.result_fixed (s : State) (cls : Nat) (r : Request) (code : ResultCode) (content : List Field) :
    (s.result cls r code content).fixed = s.fixed :=
  s.fixed_port _ s.enc s.q s.recd (Port.place_same _ _)

theorem State.onStore_fixed (s : State) (f : TextStore → TextStore) (h : (f s.store).quota = s.store.quota) :
    (s.onStore f).fixed = s.fixed :=
  s.fixed_store _ s.q h

/-- A take's answer keeps the quotas. -/
theorem TextStore.take_eq_quota {t st : TextStore} {key : RecKey} {cls : StoreClass} {distress : Bool} {n : Nat}
    {b : TakeAnswer} (h : t.take key cls distress n = (b, st)) : st.quota = t.quota := by
  have h' := t.take_quota key cls distress n
  rwa [h] at h'

/-- A state with the store a take answers. -/
theorem State.take_fixed {s : State} {st : TextStore} {key : RecKey} {cls : StoreClass} {distress : Bool} {n : Nat}
    {b : TakeAnswer} (h : s.store.take key cls distress n = (b, st)) (q : Queues) :
    State.fixed { s with store := st, q := q } = s.fixed :=
  s.fixed_store st q (TextStore.take_eq_quota h)

/-- Writing a record's characters. -/
@[simp] theorem State.onStore_write_fixed (s : State) (key : RecKey) (codes : List Nat) :
    (s.onStore fun st => st.write key codes).fixed = s.fixed :=
  s.onStore_fixed _ rfl

@[simp] theorem State.onStation_fixed (s : State) (call : Nat) (f : Station → Station) : (State.onStation s call f).fixed = s.fixed := rfl

@[simp] theorem State.onTable_fixed (s : State) (f : Station → Station) : (State.onTable s f).fixed = s.fixed := rfl

@[simp] theorem State.rejectCall_fixed (s : State) : (State.rejectCall s).fixed = s.fixed := rfl

@[simp] theorem State.recordCall_fixed (s : State) (call : Nat) :
    (State.recordCall s call).2.fixed = s.fixed := by
  unfold State.recordCall
  (repeat' split) <;> simp_all

@[simp] theorem State.hear_fixed (s : State) (call : Nat) : (State.hear s call).fixed = s.fixed := rfl

@[simp] theorem State.feedStation_fixed (s : State) (call sample : Nat) : (State.feedStation s call sample).fixed = s.fixed := rfl

@[simp] theorem State.markOverheard_fixed (s : State) (call : Nat) (st : StationState) (partner : Nat) : (State.markOverheard s call st partner).fixed = s.fixed := rfl

@[simp] theorem State.quietOverheard_fixed (s : State) (call : Nat) : (State.quietOverheard s call).fixed = s.fixed := rfl

@[simp] theorem State.namePeer_fixed (s : State) (call : Nat) :
    (State.namePeer s call).fixed = s.fixed := by
  unfold State.namePeer
  simp only []
  (repeat' split) <;> simp_all

@[simp] theorem State.peerInSession_fixed (s : State) : (State.peerInSession s).fixed = s.fixed := rfl

@[simp] theorem State.confirmPeer_fixed (s : State) : (State.confirmPeer s).fixed = s.fixed := rfl

@[simp] theorem State.releasePeer_fixed (s : State) : (State.releasePeer s).fixed = s.fixed := rfl

@[simp] theorem State.pinCall_fixed (s : State) (call : Nat) (f : Pins → Pins) :
    (State.pinCall s call f).fixed = s.fixed := by
  unfold State.pinCall
  simp only []
  (repeat' split) <;> simp_all

@[simp] theorem State.markDistress_fixed (s : State) (call : Nat) :
    (State.markDistress s call).fixed = s.fixed := by
  unfold State.markDistress
  simp only []
  (repeat' split) <;> simp_all

@[simp] theorem State.unmarkDistress_fixed (s : State) (call : Nat) : (State.unmarkDistress s call).fixed = s.fixed := rfl

@[simp] theorem State.enterBackoff_fixed (s : State) : (State.enterBackoff s).fixed = s.fixed := rfl

@[simp] theorem State.consider_fixed (s : State) :
    (State.consider s).fixed = s.fixed := by
  unfold State.consider
  (repeat' split) <;> simp_all

@[simp] theorem State.enterIdle_fixed (s : State) : (State.enterIdle s).fixed = s.fixed := rfl

@[simp] theorem State.restrictAttempt_fixed (s : State) :
    (State.restrictAttempt s).fixed = s.fixed := by
  unfold State.restrictAttempt
  (repeat' split) <;> simp_all

@[simp] theorem State.channelClear_fixed (s : State) :
    (State.channelClear s).fixed = s.fixed := by
  unfold State.channelClear
  (repeat' split) <;> simp_all

@[simp] theorem State.channelNotClear_fixed (s : State) :
    (State.channelNotClear s).fixed = s.fixed := by
  unfold State.channelNotClear
  (repeat' split) <;> simp_all

@[simp] theorem State.demandBreak_fixed (s : State) (reason : BreakReason) :
    (State.demandBreak s reason).fixed = s.fixed := by
  unfold State.demandBreak
  (repeat' split) <;> simp_all

@[simp] theorem State.judgeBusy_fixed (s : State) :
    (State.judgeBusy s).fixed = s.fixed := by
  unfold State.judgeBusy
  simp only []
  (repeat' split) <;> simp_all

@[simp] theorem State.silenceEvent_fixed (s : State) :
    (State.silenceEvent s).fixed = s.fixed := by
  unfold State.silenceEvent
  (repeat' split) <;> simp_all

@[simp] theorem State.frameNotSent_fixed (s : State) (r : FrameReq) (report : TxReport) :
    (State.frameNotSent s r report).fixed = s.fixed := rfl

@[simp] theorem State.placeFrame_fixed (s : State) (r : FrameReq) :
    (State.placeFrame s r).fixed = s.fixed := by
  unfold State.placeFrame
  (repeat' split) <;> simp_all

@[simp] theorem State.holdBurst_fixed (s : State) :
    (State.holdBurst s).fixed = s.fixed := by
  unfold State.holdBurst
  (repeat' split) <;> simp_all

@[simp] theorem State.placeBurst_fixed (s : State) :
    (State.placeBurst s).fixed = s.fixed := by
  unfold State.placeBurst
  simp only []
  (repeat' split) <;> simp_all

@[simp] theorem State.burstCompleted_fixed (s : State) :
    (State.burstCompleted s).fixed = s.fixed := by
  unfold State.burstCompleted
  simp

@[simp] theorem State.enterAlerting_fixed (s : State) (nature : Nat) :
    (State.enterAlerting s nature).fixed = s.fixed := by
  unfold State.enterAlerting
  simp

@[simp] theorem State.raiseAgain_fixed (s : State) (nature : Option Nat) :
    (State.raiseAgain s nature).fixed = s.fixed := by
  unfold State.raiseAgain
  simp only []
  (repeat' split) <;> simp_all

@[simp] theorem State.endPending_fixed (s : State) : (State.endPending s).fixed = s.fixed := rfl

@[simp] theorem State.raiseInForce_fixed (s : State) (nature : Option Nat) :
    (State.raiseInForce s nature).fixed = s.fixed := by
  unfold State.raiseInForce
  (repeat' split) <;> simp_all

@[simp] theorem State.distressNotSent_fixed (s : State) (cause : Nat) :
    (State.distressNotSent s cause).fixed = s.fixed := by
  unfold State.distressNotSent
  simp

@[simp] theorem State.disRaise_fixed (s : State) :
    (State.disRaise s).fixed = s.fixed := by
  unfold State.disRaise
  (repeat' split) <;> simp_all

@[simp] theorem State.enqueue_fixed (s : State) (x : Queued) :
    (State.enqueue s x).fixed = s.fixed := by
  unfold State.enqueue
  (repeat' split) <;> simp_all

@[simp] theorem State.dequeue_fixed (s : State) (x : Queued) : (State.dequeue s x).fixed = s.fixed := rfl

@[simp] theorem State.onEntry_fixed (s : State) (origin : Nat) (f : DistressEntry → DistressEntry) : (State.onEntry s origin f).fixed = s.fixed := rfl

@[simp] theorem State.tryPlaceFrame_fixed (s : State) :
    (State.tryPlaceFrame s).fixed = s.fixed := by
  unfold State.tryPlaceFrame
  (repeat' split) <;> simp_all

@[simp] theorem State.queueFrame_fixed (s : State) (x : Queued) :
    (State.queueFrame s x).fixed = s.fixed := by
  unfold State.queueFrame
  simp

@[simp] theorem State.cnlAccepted_fixed (s : State) :
    (State.cnlAccepted s).fixed = s.fixed := by
  unfold State.cnlAccepted
  (repeat' split) <;> simp_all

@[simp] theorem State.endOwnDistress_fixed (s : State) : (State.endOwnDistress s).fixed = s.fixed := rfl

@[simp] theorem State.cancelCompleted_fixed (s : State) :
    (State.cancelCompleted s).fixed = s.fixed := by
  unfold State.cancelCompleted
  simp only []
  (repeat' split) <;> simp_all

@[simp] theorem State.relayCompleted_fixed (s : State) :
    (State.relayCompleted s).fixed = s.fixed := by
  unfold State.relayCompleted
  simp

@[simp] theorem State.refreshAlarm_fixed (s : State) : (State.refreshAlarm s).fixed = s.fixed := rfl

@[simp] theorem State.alarmNotice_fixed (s : State) (cause : AlarmCause) (origin serial : Nat) (rest : List Field) :
    (State.alarmNotice s cause origin serial rest).fixed = s.fixed := by
  unfold State.alarmNotice
  simp

@[simp] theorem State.suppressRelay_fixed (s : State) (origin : Nat) (idleTo : RelayState) :
    (State.suppressRelay s origin idleTo).fixed = s.fixed := by
  unfold State.suppressRelay
  simp only []
  (repeat' split) <;> simp_all

@[simp] theorem State.relaysAfresh_fixed (s : State) : (State.relaysAfresh s).fixed = s.fixed := rfl

@[simp] theorem State.ownAlertEvent_fixed (s : State) (kind : OwnEvent) (call : Option Nat) (serial pf : Nat) (other : Bool) :
    (State.ownAlertEvent s kind call serial pf other).fixed = s.fixed := by
  unfold State.ownAlertEvent
  simp

@[simp] theorem State.ownAlertFrame_fixed (s : State) (f : DistressFrame) (serial : Nat) :
    (State.ownAlertFrame s f serial).fixed = s.fixed := by
  unfold State.ownAlertFrame
  simp only []
  (repeat' split) <;> simp_all

@[simp] theorem State.putEntry_fixed (s : State) (f : DistressFrame) (origin serial : Nat) (cause : AlarmCause) :
    (State.putEntry s f origin serial cause).fixed = s.fixed := by
  unfold State.putEntry
  simp

@[simp] theorem State.dropEntry_fixed (s : State) (origin : Nat) : (State.dropEntry s origin).fixed = s.fixed := rfl

@[simp] theorem State.alertHeard_fixed (s : State) (f : DistressFrame) (origin serial : Nat) :
    (State.alertHeard s f origin serial).fixed = s.fixed := by
  unfold State.alertHeard
  (repeat' split) <;> simp_all

@[simp] theorem State.ackHeard_fixed (s : State) (f : DistressFrame) (origin serial : Nat) :
    (State.ackHeard s f origin serial).fixed = s.fixed := by
  unfold State.ackHeard
  (repeat' split) <;> simp_all

@[simp] theorem State.unusableFrame_fixed (s : State) : (State.unusableFrame s).fixed = s.fixed := rfl

@[simp] theorem State.distressFrame_fixed (s : State) (f : DistressFrame) :
    (State.distressFrame s f).fixed = s.fixed := by
  unfold State.distressFrame
  simp only []
  (repeat' split) <;> simp_all

@[simp] theorem State.onOut_fixed (s : State) (ref : Nat) (f : OutRec → OutRec) : (State.onOut s ref f).fixed = s.fixed := rfl

@[simp] theorem State.createOut_fixed (s : State) (dest cls length : Nat) (serial : Option Nat) (st : OutState) :
    (s.createOut dest cls length serial st).2.fixed = s.fixed := by
  simp only [State.createOut]
  split
  · rename_i h; exact State.take_fixed h _
  · rename_i h; exact State.take_fixed h s.q

@[simp] theorem State.removeOut_fixed (s : State) (ref : Nat) : (s.removeOut ref).fixed = s.fixed :=
  s.fixed_store _ _ rfl

@[simp] theorem State.queueRecord_fixed (s : State) (ref : Nat) :
    (State.queueRecord s ref).fixed = s.fixed := by
  unfold State.queueRecord
  simp

@[simp] theorem State.chargeFailure_fixed (s : State) (ref : Nat) :
    (State.chargeFailure s ref).fixed = s.fixed := by
  unfold State.chargeFailure
  simp only []
  (repeat' split) <;> simp_all

@[simp] theorem State.onInc_fixed (s : State) (ref : Nat) (f : IncRec → IncRec) : (State.onInc s ref f).fixed = s.fixed := rfl

@[simp] theorem State.removeInc_fixed (s : State) (ref : Nat) : (s.removeInc ref).fixed = s.fixed :=
  s.fixed_store _ _ rfl

@[simp] theorem State.discardPartial_fixed (s : State) (r : IncRec) (cause : Nat) :
    (State.discardPartial s r cause).fixed = s.fixed := by
  unfold State.discardPartial
  simp

@[simp] theorem State.partAll_fixed (s : State) : (State.partAll s).fixed = s.fixed := rfl

@[simp] theorem State.replacePartial_fixed (s : State) (origin : Nat) (number : Option Nat) :
    (State.replacePartial s origin number).fixed = s.fixed := by
  have h : ∀ (l : List IncRec) (t : State), (l.foldl (fun t r => t.discardPartial r 0) t).fixed = t.fixed := by
    intro l
    induction l with
    | nil => intro t; rfl
    | cons x l ih => intro t; simp [ih]
  unfold State.replacePartial
  split
  · exact h _ s
  · rfl

@[simp] theorem State.newIncoming_fixed (s : State) (origin : Nat) (number : Option Nat) (cls : Nat) :
    (State.newIncoming s origin number cls).2.fixed = s.fixed := by
  unfold State.newIncoming
  (repeat' split) <;> simp_all

@[simp] theorem State.openIncoming_fixed (s : State) (origin : Nat) (number : Option Nat) (cls : Nat) :
    (State.openIncoming s origin number cls).2.fixed = s.fixed := by
  unfold State.openIncoming
  simp

@[simp] theorem State.incData_fixed (s : State) (r : IncRec) (codes : List Nat) :
    (s.incData r codes).2.fixed = s.fixed := by
  simp only [State.incData]
  split
  · split
    · rename_i h; simpa using State.take_fixed h s.q
    · rename_i h; exact State.take_fixed h s.q
  · simp

@[simp] theorem State.incEnd_fixed (s : State) (r : IncRec) :
    (State.incEnd s r).fixed = s.fixed := by
  unfold State.incEnd
  simp

@[simp] theorem State.reopen_fixed (s : State) (r : IncRec) : (State.reopen s r).fixed = s.fixed := rfl

@[simp] theorem State.incReadDone_fixed (s : State) (ref : Nat) : (State.incReadDone s ref).fixed = s.fixed := rfl

@[simp] theorem State.incReadUnfinished_fixed (s : State) (ref : Nat) :
    (State.incReadUnfinished s ref).fixed = s.fixed := by
  unfold State.incReadUnfinished
  simp only []
  (repeat' split) <;> simp_all

@[simp] theorem State.chargeAll_fixed (s : State) (peer : Nat) : (s.chargeAll peer).fixed = s.fixed := by
  have h : ∀ (l : List OutRec) (t : State), (l.foldl (fun t r => t.chargeFailure r.ref) t).fixed = t.fixed := by
    intro l
    induction l with
    | nil => intro t; rfl
    | cons x l ih => intro t; simp [ih]
  exact h _ s

@[simp] theorem State.delayAll_fixed (s : State) (peer : Nat) : (State.delayAll s peer).fixed = s.fixed := rfl

@[simp] theorem State.endReport_fixed (s : State) (peer : Nat) (code : EndCode) (failed : Bool) :
    (State.endReport s peer code failed).fixed = s.fixed := by
  unfold State.endReport
  (repeat' split) <;> simp_all

/-- A change of the bulletin receiver that keeps the origin filter and the schedule. -/
@[simp] theorem State.onBul_fixed (s : State) (f : Bulletins → Bulletins) (h : (f s.bul).origins = s.bul.origins)
    (h' : (f s.bul).windows.map (·.win) = s.bul.windows.map (·.win)) : (State.onBul s f).fixed = s.fixed :=
  s.fixed_bul _ h h'

@[simp] theorem Bulletins.offer_origins (b : Bulletins) (id : BulId) : (b.offer id).origins = b.origins := rfl

@[simp] theorem Bulletins.offer_windows (b : Bulletins) (id : BulId) :
    (b.offer id).windows.map (·.win) = b.windows.map (·.win) := by
  unfold Bulletins.offer
  simp only [List.map_map]
  refine List.map_congr_left fun w _ => ?_
  simp only [Function.comp]
  split <;> rfl

@[simp] theorem State.onBul_offer_fixed (s : State) (id : BulId) : (s.onBul fun b => b.offer id).fixed = s.fixed :=
  s.onBul_fixed _ (s.bul.offer_origins id) (s.bul.offer_windows id)

@[simp] theorem State.onRec_fixed (s : State) (index : Nat) (f : BulRec → BulRec) : (State.onRec s index f).fixed = s.fixed := rfl

@[simp] theorem State.removeBul_fixed (s : State) (index : Nat) : (State.removeBul s index).fixed = s.fixed := rfl

@[simp] theorem State.refuseBul_fixed (s : State) (id : BulId) (cause : Nat) :
    (State.refuseBul s id cause).fixed = s.fixed := by
  unfold State.refuseBul
  simp

@[simp] theorem State.truncateBul_fixed (s : State) (r : BulRec) :
    (State.truncateBul s r).fixed = s.fixed := by
  unfold State.truncateBul
  (repeat' split) <;> simp_all

@[simp] theorem State.writeBul_fixed (s : State) (r : BulRec) (code : Nat) : (State.writeBul s r code).fixed = s.fixed := rfl

@[simp] theorem storeBul_fixed (id : BulId) (n : Nat) (s : State) : (storeBul id n s).fixed = s.fixed := by
  induction n generalizing s with
  | zero => simp [storeBul]
  | succ n ih =>
    simp only [storeBul]
    split
    · split <;> simp [ih]
    · split
      · rename_i h
        exact (State.fixed_bul { s with store := _ } { s.bul with recs := _, index := _ } rfl rfl).trans
          (State.take_fixed h s.q)
      · rename_i h
        have h' := State.take_fixed h s.q
        split
        · rw [ih]; simpa using h'
        · simpa using h'

@[simp] theorem takeBulPage_fixed (r : BulRec) (n : Nat) (s : State) : (takeBulPage r n s).2.fixed = s.fixed := by
  induction n generalizing s with
  | zero => rfl
  | succ n ih =>
    simp only [takeBulPage]
    split
    · rename_i h; exact State.take_fixed h s.q
    · rename_i h
      have h' := State.take_fixed h s.q
      split
      · rw [ih]; simpa using h'
      · exact h'

@[simp] theorem State.bulBody_fixed (s : State) (code : Nat) : (s.bulBody code).fixed = s.fixed := by
  unfold State.bulBody
  split
  · rename_i r _
    have h := takeBulPage_fixed r 33 s
    split
    · rfl
    · split
      · simp
      · split
        · simp
        · split <;> simp_all
  · rfl

@[simp] theorem State.keepNotice_fixed (s : State) (r : BulRec) (replaced : Option Nat) :
    (State.keepNotice s r replaced).fixed = s.fixed := by
  unfold State.keepNotice
  simp

@[simp] theorem State.keepBul_fixed (s : State) (r : BulRec) (replaced : Option Nat) :
    (State.keepBul s r replaced).fixed = s.fixed := by
  unfold State.keepBul
  simp

@[simp] theorem State.endDecision_fixed (s : State) (r : BulRec) :
    (State.endDecision s r).fixed = s.fixed := by
  unfold State.endDecision
  simp only []
  (repeat' split) <;> simp_all

@[simp] theorem Bulletins.makeHeard_origins (b : Bulletins) (h : Heard) : (b.makeHeard h).origins = b.origins := by
  unfold Bulletins.makeHeard
  (repeat' split) <;> rfl

@[simp] theorem Bulletins.makeHeard_windows (b : Bulletins) (h : Heard) : (b.makeHeard h).windows = b.windows := by
  unfold Bulletins.makeHeard
  (repeat' split) <;> rfl

@[simp] theorem State.heardUpdate_fixed (s : State) (r : BulRec) :
    (State.heardUpdate s r).fixed = s.fixed := by
  unfold State.heardUpdate
  (repeat' split) <;> simp_all

@[simp] theorem State.closeBul_fixed (s : State) (ending : Ending) (pf : Nat) :
    (State.closeBul s ending pf).fixed = s.fixed := by
  unfold State.closeBul
  (repeat' split) <;> simp_all

@[simp] theorem State.bulEnd_fixed (s : State) (n sum : Nat) :
    (State.bulEnd s n sum).fixed = s.fixed := by
  unfold State.bulEnd
  simp

@[simp] theorem State.bulCut_fixed (s : State) (cause : CutCause) (n sum : Nat) :
    (State.bulCut s cause n sum).fixed = s.fixed := by
  unfold State.bulCut
  (repeat' split) <;> simp_all

@[simp] theorem State.bulBegin_fixed (s : State) (n sum : Nat) :
    (State.bulBegin s n sum).fixed = s.fixed := by
  unfold State.bulBegin
  (repeat' split) <;> simp_all

@[simp] theorem State.lookUp_fixed (s : State) (id : BulId) :
    (State.lookUp s id).2.fixed = s.fixed := by
  unfold State.lookUp
  (repeat' split) <;> simp_all

@[simp] theorem State.restartBul_fixed (s : State) (r : BulRec) : (s.restartBul r).fixed = s.fixed := by
  simp only [State.restartBul, State.onBul_fixed, State.onRec_fixed]
  exact s.onStore_fixed _ (by simp)

@[simp] theorem State.judgeHeader_fixed (s : State) (header : Option BulId) : (s.judgeHeader header).fixed = s.fixed := by
  simp only [State.judgeHeader]
  split
  · simp
  · rename_i id
    have h := (s.onBul fun b => b.offer id).lookUp_fixed id
    split
    · split <;> simp_all
    · simp

@[simp] theorem State.bulHeader_fixed (s : State) (chars : List (Option Nat)) :
    (State.bulHeader s chars).fixed = s.fixed := by
  unfold State.bulHeader
  simp only []
  (repeat' split) <;> simp

@[simp] theorem State.bulReading_fixed (s : State) (index : Nat) : (State.bulReading s index).fixed = s.fixed := rfl

@[simp] theorem State.bulReadEnd_fixed (s : State) (index : Nat) (whole : Bool) : (State.bulReadEnd s index whole).fixed = s.fixed := rfl

@[simp] theorem State.guardReport_fixed (s : State) (before : Bool) :
    (State.guardReport s before).fixed = s.fixed := by
  unfold State.guardReport
  (repeat' split) <;> simp_all

/-- Putting a window back in its place keeps the schedule. -/
theorem State.putWindow_fixed (s : State) (k : Nat) (w : LiveWindow) (h : s.fixed.windows[k - 1]? = some w.win) :
    (State.putWindow s k w).fixed = s.fixed := by
  refine s.fixed_bul _ rfl ?_
  simp only [List.map_set]
  obtain ⟨hk, hw⟩ := List.getElem?_eq_some_iff.1 h
  exact hw ▸ List.set_getElem_self hk

@[simp] theorem State.missedJudgement_fixed (s : State) (k : Nat) (w : LiveWindow) :
    (State.missedJudgement s k w).fixed = s.fixed := by
  unfold State.missedJudgement
  (repeat' split) <;> simp_all

@[simp] theorem State.endGrace_fixed (s : State) (w : LiveWindow) : (State.endGrace s w).fixed = s.fixed := by
  unfold State.endGrace
  (repeat' split) <;> simp_all

@[simp] theorem State.settle_win (s : State) (w : LiveWindow) (st : WindowState) : (s.settle w st).win = w.win := by
  unfold State.settle State.activate
  split <;> rfl

theorem State.windowRun_fixed (s : State) (k : Nat) (w : LiveWindow) (st : WindowState)
    (h : s.fixed.windows[k - 1]? = some w.win) : (State.windowRun s k w st).fixed = s.fixed := by
  unfold State.windowRun
  simp only []
  (repeat' split) <;> simp [State.putWindow_fixed, h]

theorem State.windowStep_fixed (s : State) (k : Nat) (w : LiveWindow) (old : Nat) (forward : Bool) (delta : Nat)
    (h : s.fixed.windows[k - 1]? = some w.win) : (State.windowStep s k w old forward delta).fixed = s.fixed := by
  unfold State.windowStep
  simp only []
  (repeat' split) <;> simp [State.putWindow_fixed, h]

/-- The windows still to be judged are those of the schedule from place `k` on. -/
theorem stepFrom_fixed (old : Nat) (forward : Bool) (delta k : Nat) (ws : List LiveWindow) (s : State)
    (h : ∀ n, (ws[n]?.map (·.win)) = s.fixed.windows[k + n]?) :
    (stepFrom old forward delta (k + 1) ws s).fixed = s.fixed := by
  induction ws generalizing k s with
  | nil => rfl
  | cons w ws ih =>
    have hw := s.windowStep_fixed (k + 1) w old forward delta (by simpa using (h 0).symm)
    rw [stepFrom, ih (k + 1) _ fun n => ?_, hw]
    rw [hw]
    simpa [Nat.add_assoc, Nat.add_comm, Nat.add_left_comm] using h (n + 1)

@[simp] theorem State.stepWindows_fixed (s : State) (old : Nat) (forward : Bool) (delta : Nat) :
    (s.stepWindows old forward delta).fixed = s.fixed := by
  rw [State.stepWindows, State.guardReport_fixed]
  exact stepFrom_fixed old forward delta 0 s.bul.windows s fun n => by simp [State.fixed]

@[simp] theorem State.askReport_fixed (s : State) (dest : Nat) : (s.askReport dest).2.fixed = s.fixed := by
  simp only [State.askReport]
  split
  · rfl
  · rfl
  · rfl
  · have h := s.createOut_fixed dest 1 (reportLength s.tally.rows.length) (some s.tally.serial) .intake
    split <;> simp_all

@[simp] theorem State.deferNotice_fixed (s : State) (source : CloseSource) (cause : CloseCause) :
    (State.deferNotice s source cause).fixed = s.fixed := by
  unfold State.deferNotice
  simp

@[simp] theorem State.deferClose_fixed (s : State) (source : CloseSource) (cause : CloseCause) :
    (State.deferClose s source cause).fixed = s.fixed := by
  unfold State.deferClose
  simp

@[simp] theorem State.armHourClose_fixed (s : State) :
    (State.armHourClose s).fixed = s.fixed := by
  unfold State.armHourClose
  (repeat' split) <;> simp_all

@[simp] theorem State.overdue_fixed (s : State) (w : ReportWatch) :
    (State.overdue s w).fixed = s.fixed := by
  unfold State.overdue
  simp

@[simp] theorem State.reportDelivered_fixed (s : State) (serial attempts : Nat) :
    (State.reportDelivered s serial attempts).fixed = s.fixed := by
  unfold State.reportDelivered
  (repeat' split) <;> simp_all

@[simp] theorem State.deliver_fixed (s : State) (ref : Nat) :
    (State.deliver s ref).fixed = s.fixed := by
  unfold State.deliver
  (repeat' split) <;> simp_all

@[simp] theorem State.onDec_fixed (s : State) (f : Decoder → Decoder) : (State.onDec s f).fixed = s.fixed := rfl

@[simp] theorem State.onStream_fixed (s : State) (f : Stream → Stream) : (State.onStream s f).fixed = s.fixed := rfl

@[simp] theorem State.setFrame_fixed (s : State) (f : FrameState) : (State.setFrame s f).fixed = s.fixed := rfl

@[simp] theorem State.attribute_fixed (s : State) (sender : Option Nat) (sf : Nat) :
    (s.attribute sender sf).fixed = s.fixed := by
  unfold State.attribute
  split
  · rename_i call
    have h := s.recordCall_fixed call
    split <;> simp_all
  · simp

@[simp] theorem State.handDistress_fixed (s : State) (type : FrameType) (n sum : Nat) (fields : List (Option Nat)) :
    (State.handDistress s type n sum fields).fixed = s.fixed := by
  unfold State.handDistress
  simp

@[simp] theorem State.attributeBul_fixed (s : State) (n sum : Nat) (header : List (Option Nat)) :
    (State.attributeBul s n sum header).fixed = s.fixed := by
  unfold State.attributeBul
  simp

@[simp] theorem State.cutFrame_fixed (s : State) (cause : CutCause) :
    (State.cutFrame s cause).fixed = s.fixed := by
  unfold State.cutFrame
  (repeat' split) <;> simp_all

@[simp] theorem State.loseSync_fixed (s : State) (cause : CutCause) :
    (State.loseSync s cause).fixed = s.fixed := by
  unfold State.loseSync
  simp

@[simp] theorem State.endStream_fixed (s : State) :
    (State.endStream s).fixed = s.fixed := by
  unfold State.endStream
  simp

@[simp] theorem State.gainSync_fixed (s : State) :
    (State.gainSync s).fixed = s.fixed := by
  unfold State.gainSync
  simp

@[simp] theorem State.unexpected_fixed (s : State) :
    (State.unexpected s).fixed = s.fixed := by
  unfold State.unexpected
  (repeat' split) <;> simp_all

@[simp] theorem State.expected_fixed (s : State) : (State.expected s).fixed = s.fixed := rfl

@[simp] theorem State.betweenFrames_fixed (s : State) (c : Option Nat) (score : Nat) :
    (State.betweenFrames s c score).fixed = s.fixed := by
  unfold State.betweenFrames
  (repeat' split) <;> simp_all

@[simp] theorem State.inBulletin_fixed (s : State) (n sum : Nat) (header : List (Option Nat)) (c : Option Nat) (score : Nat) :
    (State.inBulletin s n sum header c score).fixed = s.fixed := by
  unfold State.inBulletin
  (repeat' split) <;> simp_all

@[simp] theorem State.inDistress_fixed (s : State) (type : FrameType) (n sum : Nat) (fields : List (Option Nat)) (c : Option Nat) (score : Nat) :
    (State.inDistress s type n sum fields c score).fixed = s.fixed := by
  unfold State.inDistress
  simp only []
  (repeat' split) <;> simp_all

@[simp] theorem State.handleChar_fixed (s : State) (c : Option Nat) (score : Nat) :
    (State.handleChar s c score).fixed = s.fixed := by
  unfold State.handleChar
  (repeat' split) <;> simp_all

@[simp] theorem State.decided_fixed (s : State) (r : Option Nat × Nat) :
    (State.decided s r).fixed = s.fixed := by
  unfold State.decided
  simp only []
  (repeat' split) <;> simp_all

@[simp] theorem State.completePair_fixed (s : State) (j : Nat) (f : Copy) (sCopy : Option Copy) :
    (State.completePair s j f sCopy).fixed = s.fixed := by
  unfold State.completePair
  (repeat' split) <;> simp_all

@[simp] theorem State.pairRead_fixed (s : State) (f sc : Copy) :
    (State.pairRead s f sc).fixed = s.fixed := by
  unfold State.pairRead
  simp only []
  (repeat' split) <;> simp_all

@[simp] theorem State.markerFound_fixed (s : State) (slip : Bool) : (State.markerFound s slip).fixed = s.fixed := rfl

@[simp] theorem State.withF_fixed (s : State) (c : Copy) :
    (State.withF s c).fixed = s.fixed := by
  unfold State.withF
  (repeat' split) <;> simp_all

@[simp] theorem State.searchMarker_fixed (s : State) (m : MarkerSearch) (a b c : Copy) :
    (State.searchMarker s m a b c).fixed = s.fixed := by
  unfold State.searchMarker
  simp only []
  (repeat' split) <;> simp_all

@[simp] theorem State.slotRead_fixed (s : State) (c : Copy) :
    (State.slotRead s c).fixed = s.fixed := by
  unfold State.slotRead
  (repeat' split) <;> simp_all

@[simp] theorem State.streamSymbol_fixed (s : State) (y : Sym) :
    (State.streamSymbol s y).fixed = s.fixed := by
  unfold State.streamSymbol
  simp only []
  (repeat' split) <;> simp_all

@[simp] theorem State.onSession_fixed (s : State) (f : Session → Session) : (State.onSession s f).fixed = s.fixed := rfl

@[simp] theorem State.setPhase_fixed (s : State) (p : Phase) : (State.setPhase s p).fixed = s.fixed := rfl

@[simp] theorem State.onCounts_fixed (s : State) (f : LinkCounts → LinkCounts) :
    (State.onCounts s f).fixed = s.fixed := rfl

@[simp] theorem State.clearFailed_fixed (s : State) : (State.clearFailed s).fixed = s.fixed := rfl

@[simp] theorem State.failCycle_fixed (s : State) : (State.failCycle s).fixed = s.fixed := rfl

@[simp] theorem State.sessionEndNotice_fixed (s : State) (x : Session) (code : EndCode) (reason : Option BreakReason) (unsent : Bool) :
    (State.sessionEndNotice s x code reason unsent).fixed = s.fixed := by
  unfold State.sessionEndNotice
  simp

@[simp] theorem State.endSession_fixed (s : State) (code : EndCode) (reason : Option BreakReason) (unsent : Bool) :
    (State.endSession s code reason unsent).fixed = s.fixed := by
  unfold State.endSession
  (repeat' split) <;> simp_all

@[simp] theorem State.feedCycle_fixed (s : State) (x : Session) :
    (State.feedCycle s x).fixed = s.fixed := by
  unfold State.feedCycle
  simp only []
  (repeat' split) <;> simp_all

@[simp] theorem State.endInCycle_fixed (s : State) (code : EndCode) (reason : Option BreakReason) (unsent : Bool) :
    (State.endInCycle s code reason unsent).fixed = s.fixed := by
  unfold State.endInCycle
  (repeat' split) <;> simp_all

@[simp] theorem State.peerBreak_fixed (s : State) (letter : Nat) :
    (State.peerBreak s letter).fixed = s.fixed := by
  unfold State.peerBreak
  simp

@[simp] theorem State.blockReported_fixed (s : State) : (State.blockReported s).fixed = s.fixed := rfl

@[simp] theorem State.linkReport_fixed (s : State) (r : LinkReq) (report : TxReport) :
    (State.linkReport s r report).fixed = s.fixed := by
  unfold State.linkReport
  simp only []
  (repeat' split) <;> simp_all

@[simp] theorem State.placeLink_fixed (s : State) (r : LinkReq) :
    (State.placeLink s r).fixed = s.fixed := by
  unfold State.placeLink
  simp only []
  (repeat' split) <;> simp_all

@[simp] theorem State.placeBlock_fixed (s : State) (x : Session) (kind : LinkKind) (chars : List Nat) (closing : Bool) :
    (State.placeBlock s x kind chars closing).fixed = s.fixed := by
  unfold State.placeBlock
  simp

@[simp] theorem State.placeReply_fixed (s : State) (x : Session) (r : Reply) (closing : Bool) :
    (State.placeReply s x r closing).fixed = s.fixed := by
  unfold State.placeReply
  simp

@[simp] theorem State.startTiming_fixed (s : State) : (State.startTiming s).fixed = s.fixed := rfl

@[simp] theorem State.placeCall_fixed (s : State) (x : Session) :
    (State.placeCall s x).fixed = s.fixed := by
  unfold State.placeCall
  (repeat' split) <;> simp_all

@[simp] theorem State.enterCalling_fixed (s : State) (a : Attempt) :
    (State.enterCalling s a).fixed = s.fixed := by
  unfold State.enterCalling
  simp

@[simp] theorem State.backoffOver_fixed (s : State) :
    (State.backoffOver s).fixed = s.fixed := by
  unfold State.backoffOver
  (repeat' split) <;> simp_all

@[simp] theorem State.callingShort_fixed (s : State) (r : Option Reply) :
    (State.callingShort s r).fixed = s.fixed := by
  unfold State.callingShort
  (repeat' split) <;> simp_all

@[simp] theorem State.answerCall_fixed (s : State) (caller cls announced boundary : Nat) :
    (State.answerCall s caller cls announced boundary).fixed = s.fixed := by
  unfold State.answerCall
  (repeat' split) <;> simp_all

@[simp] theorem State.deliverBlock_fixed (s : State) (x : Session) (b : Block) (e : Nat) :
    (s.deliverBlock x b e).2.fixed = s.fixed := by
  simp only [State.deliverBlock]
  split
  · have h := s.openIncoming_fixed x.peer (payloadNumber b.payload 0 2) (beginClass b.payload)
    split <;> simp_all
  · split
    · rename_i r _
      have h := s.incData_fixed r (dataCodes b.payload)
      split <;> simp_all
    · rfl
  · split <;> simp
  · split
    · split <;> simp
    · rfl
  · split <;> simp
  · simp
  · rfl

@[simp] theorem State.reply_fixed (s : State) (r : Reply) :
    (State.reply s r).fixed = s.fixed := by
  unfold State.reply
  (repeat' split) <;> simp_all

@[simp] theorem State.receiveBlock_fixed (s : State) (x : Session) (b : Block) :
    (s.receiveBlock x b).fixed = s.fixed := by
  simp only [State.receiveBlock]
  split
  · have h := s.deliverBlock_fixed x b x.expected
    split <;> simp_all
  · split <;> simp

@[simp] theorem State.receivingLong_fixed (s : State) (x : Session) (b : Option Block) :
    (State.receivingLong s x b).fixed = s.fixed := by
  unfold State.receivingLong
  (repeat' split) <;> simp_all

@[simp] theorem State.answeringLong_fixed (s : State) (x : Session) (b : Option Block) :
    (State.answeringLong s x b).fixed = s.fixed := by
  unfold State.answeringLong
  (repeat' split) <;> simp_all

@[simp] theorem State.messageBoundary_fixed (s : State) (x : Session) :
    (State.messageBoundary s x).fixed = s.fixed := by
  unfold State.messageBoundary
  (repeat' split) <;> simp_all

@[simp] theorem State.placeDue_fixed (s : State) :
    (State.placeDue s).fixed = s.fixed := by
  unfold State.placeDue
  simp only []
  (repeat' split) <;> simp_all

@[simp] theorem State.followRecord_fixed (s : State) (ref : Nat) :
    (State.followRecord s ref).fixed = s.fixed := by
  unfold State.followRecord
  simp

@[simp] theorem State.blockAccepted_fixed (s : State) (b : SendBlock) :
    (State.blockAccepted s b).fixed = s.fixed := by
  unfold State.blockAccepted
  (repeat' split) <;> simp_all

@[simp] theorem State.restartMessage_fixed (s : State) (b : SendBlock) (ref : Nat) : (State.restartMessage s b ref).fixed = s.fixed := rfl

@[simp] theorem State.holdRead_fixed (s : State) : (State.holdRead s).fixed = s.fixed := rfl

@[simp] theorem State.replyRead_fixed (s : State) (b : SendBlock) (r : Reply) :
    (State.replyRead s b r).fixed = s.fixed := by
  unfold State.replyRead
  (repeat' split) <;> simp_all

@[simp] theorem State.sendingShort_fixed (s : State) (x : Session) (r : Option Reply) :
    (State.sendingShort s x r).fixed = s.fixed := by
  unfold State.sendingShort
  (repeat' split) <;> simp_all

@[simp] theorem State.takingLong_fixed (s : State) (x : Session) (b : Option Block) :
    (State.takingLong s x b).fixed = s.fixed := by
  unfold State.takingLong
  (repeat' split) <;> simp_all

@[simp] theorem State.takingShort_fixed (s : State) (x : Session) (r : Option Reply) :
    (State.takingShort s x r).fixed = s.fixed := by
  unfold State.takingShort
  (repeat' split) <;> simp_all

@[simp] theorem State.heardPeer_fixed (s : State) (x : Session) :
    (State.heardPeer s x).fixed = s.fixed := by
  unfold State.heardPeer
  (repeat' split) <;> simp_all

@[simp] theorem State.sessionBlock_fixed (s : State) (x : Session) :
    (State.sessionBlock s x).fixed = s.fixed := by
  unfold State.sessionBlock
  (repeat' split) <;> simp_all

@[simp] theorem State.longSlot_fixed (s : State) (x : Session) :
    (State.longSlot s x).fixed = s.fixed := by
  unfold State.longSlot
  simp only []
  (repeat' split) <;> simp_all

@[simp] theorem State.shortSlot_fixed (s : State) (x : Session) :
    (State.shortSlot s x).fixed = s.fixed := by
  unfold State.shortSlot
  simp only []
  (repeat' split) <;> simp_all

@[simp] theorem State.slotReadDue_fixed (s : State) :
    (State.slotReadDue s).fixed = s.fixed := by
  unfold State.slotReadDue
  (repeat' split) <;> simp_all

@[simp] theorem State.cycleSample_fixed (s : State) (x : Session) :
    (State.cycleSample s x).fixed = s.fixed := by
  unfold State.cycleSample
  simp

@[simp] theorem State.swapRole_fixed (s : State) (phase : Phase) (taking : Bool) :
    (State.swapRole s phase taking).fixed = s.fixed := rfl

@[simp] theorem State.changeRole_fixed (s : State) (x : Session) :
    (State.changeRole s x).fixed = s.fixed := by
  unfold State.changeRole
  (repeat' split) <;> simp_all

@[simp] theorem State.nextCycle_fixed (s : State) : (State.nextCycle s).fixed = s.fixed := rfl

@[simp] theorem State.takeBreak_fixed (s : State) (reason : BreakReason) :
    (State.takeBreak s reason).fixed = s.fixed := by
  unfold State.takeBreak
  (repeat' split) <;> simp_all

@[simp] theorem State.placeCycle_fixed (s : State) :
    (State.placeCycle s).fixed = s.fixed := by
  unfold State.placeCycle
  (repeat' split) <;> simp_all

@[simp] theorem State.boundary_fixed (s : State) (x : Session) :
    (State.boundary s x).fixed = s.fixed := by
  unfold State.boundary
  simp only []
  (repeat' split) <;> simp_all

@[simp] theorem State.linkRestarted_fixed (s : State) :
    (State.linkRestarted s).fixed = s.fixed := by
  unfold State.linkRestarted
  (repeat' split) <;> simp_all

@[simp] theorem State.keyAsserted_fixed (s : State) :
    (State.keyAsserted s).fixed = s.fixed := by
  unfold State.keyAsserted
  simp only []
  (repeat' split) <;> simp_all

@[simp] theorem State.keyReleased_fixed (s : State) : (State.keyReleased s).fixed = s.fixed := rfl

@[simp] theorem State.launch_fixed (s : State) (item : TxItem) (slots : List Nat) :
    (State.launch s item slots).fixed = s.fixed := by
  unfold State.launch
  simp

@[simp] theorem State.startBurst_fixed (s : State) (r : FrameReq) :
    (State.startBurst s r).fixed = s.fixed := by
  unfold State.startBurst
  simp

@[simp] theorem State.startFrame_fixed (s : State) (r : FrameReq) :
    (State.startFrame s r).fixed = s.fixed := by
  unfold State.startFrame
  simp

@[simp] theorem State.serveFrames_fixed (s : State) :
    (State.serveFrames s).fixed = s.fixed := by
  unfold State.serveFrames
  (repeat' split) <;> simp_all

@[simp] theorem State.startLink_fixed (s : State) (r : LinkReq) :
    (State.startLink s r).fixed = s.fixed := by
  unfold State.startLink
  simp

@[simp] theorem State.serveLink_fixed (s : State) (r : LinkReq) :
    (State.serveLink s r).fixed = s.fixed := by
  unfold State.serveLink
  simp only []
  (repeat' split) <;> simp_all

@[simp] theorem State.frameCompleted_fixed (s : State) (k : FrameKind) :
    (State.frameCompleted s k).fixed = s.fixed := by
  unfold State.frameCompleted
  (repeat' split) <;> simp_all

@[simp] theorem State.complete_fixed (s : State) (t : Transmission) :
    (State.complete s t).fixed = s.fixed := by
  unfold State.complete
  (repeat' split) <;> simp_all

@[simp] theorem State.abandon_fixed (s : State) :
    (State.abandon s).fixed = s.fixed := by
  unfold State.abandon
  (repeat' split) <;> simp_all

@[simp] theorem State.encoderRestart_fixed (s : State) :
    (State.encoderRestart s).fixed = s.fixed := by
  unfold State.encoderRestart
  (repeat' split) <;> simp_all

@[simp] theorem State.overheardPair_fixed (s : State) (caller called align : Nat) :
    (State.overheardPair s caller called align).fixed = s.fixed := by
  unfold State.overheardPair
  simp

@[simp] theorem State.pairForPart_fixed (s : State) (caller own digit announced boundary : Nat) :
    (State.pairForPart s caller own digit announced boundary).fixed = s.fixed := by
  unfold State.pairForPart
  simp

@[simp] theorem State.callPair_fixed (s : State) (caller called digit announced boundary : Nat) :
    (State.callPair s caller called digit announced boundary).fixed = s.fixed := by
  unfold State.callPair
  simp only []
  (repeat' split) <;> simp_all

@[simp] theorem State.callHalf_fixed (s : State) (h : CallHalf) :
    (State.callHalf s h).fixed = s.fixed := by
  unfold State.callHalf
  (repeat' split) <;> simp_all

@[simp] theorem State.endOverheard_fixed (s : State) (o : Overheard) : (State.endOverheard s o).fixed = s.fixed := rfl

@[simp] theorem State.confirmOverheard_fixed (s : State) (o : Overheard) (call : Nat) : (State.confirmOverheard s o call).fixed = s.fixed := rfl

@[simp] theorem State.overheardBlock_fixed (s : State) (o : Overheard) (b : Block) (start : Nat) :
    (State.overheardBlock s o b start).fixed = s.fixed := by
  unfold State.overheardBlock
  generalize o.settled s.now = now
  cases h : now.inSession <;> (repeat' split) <;> simp_all

@[simp] theorem State.overheardReply_fixed (s : State) (o : Overheard) (r : Reply) (start : Nat) :
    (State.overheardReply s o r start).fixed = s.fixed := by
  unfold State.overheardReply
  simp only []
  (repeat' split) <;> simp_all

@[simp] theorem State.heardBlock_fixed (s : State) (b : Block) (start : Nat) :
    (State.heardBlock s b start).fixed = s.fixed := by
  unfold State.heardBlock
  (repeat' split) <;> simp_all

@[simp] theorem State.heardReply_fixed (s : State) (r : Reply) (start : Nat) :
    (State.heardReply s r start).fixed = s.fixed := by
  unfold State.heardReply
  (repeat' split) <;> simp_all

@[simp] theorem State.blockFound_fixed (s : State) (b : Block) (start : Nat) :
    (State.blockFound s b start).fixed = s.fixed := by
  unfold State.blockFound
  simp only []
  (repeat' split) <;> simp_all

@[simp] theorem State.shortFound_fixed (s : State) (align : Nat) :
    (State.shortFound s align).fixed = s.fixed := by
  unfold State.shortFound
  simp only []
  (repeat' split) <;> simp_all

@[simp] theorem State.testWindow_fixed (s : State) :
    (State.testWindow s).fixed = s.fixed := by
  unfold State.testWindow
  (repeat' split) <;> simp_all

@[simp] theorem State.takeSymbol_fixed (s : State) (y : Sym) :
    (State.takeSymbol s y).fixed = s.fixed := by
  unfold State.takeSymbol
  simp only []
  (repeat' split) <;> simp_all

@[simp] theorem State.strobeLost_fixed (s : State) :
    (State.strobeLost s).fixed = s.fixed := by
  unfold State.strobeLost
  simp only []
  (repeat' split) <;> simp_all

@[simp] theorem State.linkedOver_fixed (s : State) :
    (State.linkedOver s).fixed = s.fixed := by
  unfold State.linkedOver
  simp

@[simp] theorem State.decoderRestart_fixed (s : State) :
    (State.decoderRestart s).fixed = s.fixed := by
  unfold State.decoderRestart
  (repeat' split) <;> simp_all

@[simp] theorem State.lineNotice_fixed (s : State) (l : Line) :
    (State.lineNotice s l).fixed = s.fixed := by
  unfold State.lineNotice
  simp

@[simp] theorem State.handLine_fixed (s : State) (l : Line) :
    (State.handLine s l).fixed = s.fixed := by
  unfold State.handLine
  (repeat' split) <;> simp_all

@[simp] theorem State.acceptLine_fixed (s : State) (l : Line) :
    (State.acceptLine s l).fixed = s.fixed := by
  unfold State.acceptLine
  simp

@[simp] theorem State.timeTaken_fixed (s : State) (ref : ClockRef) : (State.timeTaken s ref).fixed = s.fixed := rfl

@[simp] theorem State.correct_fixed (s : State) (reading value : Nat) :
    (State.correct s reading value).fixed = s.fixed := by
  unfold State.correct
  simp only []
  (repeat' split) <;> simp_all

@[simp] theorem State.takePosition_fixed (s : State) (latitude longitude : BitVec 32) :
    (State.takePosition s latitude longitude).fixed = s.fixed := by
  unfold State.takePosition
  (repeat' split) <;> simp_all

@[simp] theorem State.invalid_fixed (s : State) (cls : Nat) (r : Request) :
    (State.invalid s cls r).fixed = s.fixed := by
  unfold State.invalid
  simp

@[simp] theorem State.reqRaise_fixed (s : State) (r : Request) :
    (State.reqRaise s r).fixed = s.fixed := by
  unfold State.reqRaise
  (repeat' split) <;> simp_all

@[simp] theorem State.beginCancel_fixed (s : State) : (State.beginCancel s).fixed = s.fixed := rfl

@[simp] theorem State.reqCancelDistress_fixed (s : State) (r : Request) :
    (State.reqCancelDistress s r).fixed = s.fixed := by
  unfold State.reqCancelDistress
  (repeat' split) <;> simp_all

@[simp] theorem State.ackEntries_fixed (s : State) (p : DistressEntry → Bool) : (State.ackEntries s p).fixed = s.fixed := rfl

@[simp] theorem State.ackRefused_fixed (s : State) (r : Request) : (State.ackRefused s r).fixed = s.fixed := by
  simp [State.ackRefused]

@[simp] theorem State.reqAck_fixed (s : State) (r : Request) :
    (State.reqAck s r).fixed = s.fixed := by
  unfold State.reqAck
  (repeat' split) <;> simp_all

@[simp] theorem State.monitorRestart_fixed (s : State) :
    (State.monitorRestart s).fixed = s.fixed := by
  unfold State.monitorRestart
  simp

@[simp] theorem State.restartAll_fixed (s : State) :
    (State.restartAll s).fixed = s.fixed := by
  unfold State.restartAll
  simp

@[simp] theorem State.reqRestart_fixed (s : State) (r : Request) :
    (State.reqRestart s r).fixed = s.fixed := by
  unfold State.reqRestart
  simp

@[simp] theorem State.reqSend_fixed (s : State) (r : Request) : (s.reqSend r).fixed = s.fixed := by
  simp only [State.reqSend]
  split
  · rename_i dest cls length _ _ _
    repeat' split
    all_goals try (simp; done)
    all_goals
      rename_i h
      have h' := s.createOut_fixed dest cls length none .intake
      rw [h] at h'
      rw [State.result_fixed]
      exact h'
  · simp [State.invalid]

@[simp] theorem State.reqCancelMessage_fixed (s : State) (r : Request) :
    (State.reqCancelMessage s r).fixed = s.fixed := by
  unfold State.reqCancelMessage
  (repeat' split) <;> simp_all

@[simp] theorem State.openReadout_fixed (s : State) (r : Request) (key : RecKey) (total : Nat) :
    (s.openReadout r key total).fixed = s.fixed :=
  s.fixed_port _ s.enc s.q s.recd ⟨rfl, rfl, rfl⟩

@[simp] theorem State.reqReadMessage_fixed (s : State) (r : Request) :
    (State.reqReadMessage s r).fixed = s.fixed := by
  unfold State.reqReadMessage
  simp only []
  (repeat' split) <;> simp_all

@[simp] theorem State.reqReadBulletin_fixed (s : State) (r : Request) :
    (State.reqReadBulletin s r).fixed = s.fixed := by
  unfold State.reqReadBulletin
  simp only []
  (repeat' split) <;> simp_all

@[simp] theorem State.reqSelection_fixed (s : State) (r : Request) :
    (State.reqSelection s r).fixed = s.fixed := by
  unfold State.reqSelection
  (repeat' split) <;> simp_all

@[simp] theorem State.reqAux_fixed (s : State) (r : Request) :
    (State.reqAux s r).fixed = s.fixed := by
  unfold State.reqAux
  (repeat' split) <;> simp_all

@[simp] theorem State.abandonIntake_fixed (s : State) (i : Intake) (cause : Nat) :
    (s.abandonIntake i cause).fixed = s.fixed := by
  simp only [State.abandonIntake, State.result_fixed, State.removeOut_fixed]
  exact s.fixed_port _ s.enc s.q s.recd ⟨rfl, rfl, rfl⟩

@[simp] theorem State.completeIntake_fixed (s : State) (i : Intake) : (s.completeIntake i).fixed = s.fixed := by
  simp only [State.completeIntake, State.result_fixed]
  exact ((s.queueRecord i.ref).fixed_port _ _ _ _ ⟨rfl, rfl, rfl⟩).trans (by simp)

@[simp] theorem State.takeFragment_fixed (s : State) (i : Intake) (bytes : List Byte) :
    (s.takeFragment i bytes).fixed = s.fixed := by
  simp only [State.takeFragment]
  split
  · simp
  · have h (c : List Nat) (j : Intake) :
        State.fixed { s.onStore (fun st => st.write (.out i.ref) c) with
          port := { s.port with intake := some j } } = s.fixed :=
      ((s.onStore fun st => st.write (.out i.ref) c).fixed_port { s.port with intake := some j } s.enc s.q s.recd ⟨rfl, rfl, rfl⟩).trans (by simp)
    split
    · rw [State.completeIntake_fixed]; exact h _ _
    · exact h _ _

@[simp] theorem State.strayFrame_fixed (s : State) : s.strayFrame.fixed = s.fixed :=
  s.fixed_port _ s.enc s.q s.recd ⟨rfl, rfl, rfl⟩

@[simp] theorem State.takeText_fixed (s : State) (src sequence : Byte) (bytes : List Byte) :
    (s.takeText src sequence bytes).fixed = s.fixed := by
  simp only [State.takeText]
  repeat' split
  all_goals first
    | simp
    | exact s.fixed_port _ s.enc s.q s.recd ⟨rfl, rfl, rfl⟩

@[simp] theorem State.placeReadout_fixed (s : State) (x : Readout) : (s.placeReadout x).fixed = s.fixed :=
  s.fixed_port _ s.enc s.q s.recd (Port.place_same _ _)

@[simp] theorem State.placeEnd_fixed (s : State) (x : Readout) : (s.placeEnd x).fixed = s.fixed :=
  s.fixed_port _ s.enc s.q s.recd (Port.place_same _ _)

@[simp] theorem State.readoutEnded_fixed (s : State) (key : RecKey) (whole : Bool) :
    (State.readoutEnded s key whole).fixed = s.fixed := by
  unfold State.readoutEnded
  (repeat' split) <;> simp_all

@[simp] theorem State.readoutCarried_fixed (s : State) (kind : OutKind) : (s.readoutCarried kind).fixed = s.fixed := by
  simp only [State.readoutCarried]
  repeat' split
  all_goals try rw [State.readoutEnded_fixed]
  all_goals rfl

@[simp] theorem State.carried_fixed (s : State) : s.carried.fixed = s.fixed := by
  simp only [State.carried]
  split
  · exact s.fixed_port _ s.enc s.q s.recd ⟨rfl, rfl, rfl⟩
  split
  · rw [State.readoutCarried_fixed]
    exact s.fixed_port _ s.enc s.q s.recd (Port.carry_same _ _)
  · rfl

@[simp] theorem State.stall_fixed (s : State) (x : Readout) : (s.stall x).fixed = s.fixed := by
  simp only [State.stall, State.readoutEnded_fixed]
  exact s.fixed_port _ s.enc s.q s.recd (Port.dropReadout_same _ _)

@[simp] theorem State.configure_fixed (s : State) (item : Nat) (r : Request) (judge : ItemOutcome) :
    (s.configure item r judge).fixed = s.fixed := by
  simp only [State.configure]
  repeat' split
  all_goals first
    | simp; done
    | (rw [State.result_fixed]; exact s.fixed_port _ s.enc s.q _ ⟨rfl, rfl, rfl⟩)

@[simp] theorem State.pinConfigured_fixed (s : State) : s.pinConfigured.fixed = s.fixed := by
  have h : ∀ (l : List LiveWindow) (t : State),
      (l.foldl (fun u w => u.pinCall w.win.coast fun p => { p with schedule := true }) t).fixed = t.fixed := by
    intro l
    induction l with
    | nil => intro t; rfl
    | cons x l ih => intro t; simp [ih]
  simp only [State.pinConfigured, h]
  split <;> simp

@[simp] theorem State.scheduleInForce_fixed (s : State) :
    (State.scheduleInForce s).fixed = s.fixed := by
  unfold State.scheduleInForce
  (repeat' split) <;> simp_all

@[simp] theorem State.recheckCd_fixed (s : State) :
    (State.recheckCd s).fixed = s.fixed := by
  unfold State.recheckCd
  (repeat' split) <;> simp_all

@[simp] theorem State.closedNotice_fixed (s : State) (source : Option Byte) :
    (State.closedNotice s source).fixed = s.fixed := by
  unfold State.closedNotice
  simp

@[simp] theorem State.answerStatus_fixed (s : State) (r : Request) (content : List Field) :
    (State.answerStatus s r content).fixed = s.fixed := by
  unfold State.answerStatus
  simp

@[simp] theorem State.answerOne_fixed {α : Type} (s : State) (r : Request) (find : Nat → Option α) (content : α → List Field) :
    (State.answerOne s r find content).fixed = s.fixed := by
  unfold State.answerOne
  (repeat' split) <;> simp_all

@[simp] theorem State.statusOf_fixed (s : State) (item : Nat) (r : Request) :
    (State.statusOf s item r).fixed = s.fixed := by
  unfold State.statusOf
  (repeat' split) <;> simp_all

@[simp] theorem State.countMalformed_fixed (s : State) : s.countMalformed.fixed = s.fixed :=
  s.fixed_port _ s.enc s.q s.recd ⟨rfl, rfl, rfl⟩

@[simp] theorem State.dropAssembly_fixed (s : State) (src : Byte) : (s.dropAssembly src).fixed = s.fixed :=
  s.fixed_port _ s.enc s.q s.recd ⟨rfl, rfl, rfl⟩

@[simp] theorem State.abandonAssembly_fixed (s : State) (a : Assembly) :
    (State.abandonAssembly s a).fixed = s.fixed := by
  unfold State.abandonAssembly
  simp

@[simp] theorem State.clearAssembly_fixed (s : State) (src : Byte) :
    (State.clearAssembly s src).fixed = s.fixed := by
  unfold State.clearAssembly
  (repeat' split) <;> simp_all

@[simp] theorem State.textFrame_fixed (s : State) (src sequence : Byte) (bytes : List Byte) :
    (State.textFrame s src sequence bytes).fixed = s.fixed := by
  unfold State.textFrame
  (repeat' split) <;> simp_all

@[simp] theorem State.becomeClear_fixed (s : State) :
    (State.becomeClear s).fixed = s.fixed := by
  unfold State.becomeClear
  simp

@[simp] theorem State.pulse_fixed (s : State) : (State.pulse s).fixed = s.fixed := rfl

@[simp] theorem State.considerAgain_fixed (s : State) :
    (State.considerAgain s).fixed = s.fixed := by
  unfold State.considerAgain
  simp

@[simp] theorem State.forgetHeard_fixed (s : State) : (State.forgetHeard s).fixed = s.fixed := rfl

@[simp] theorem State.crossWindow_fixed (s : State) (k : Nat) :
    (State.crossWindow s k).fixed = s.fixed := by
  unfold State.crossWindow State.windowAt
  split
  · rename_i w st h
    split at h
    · rename_i v _ hv
      obtain ⟨rfl, rfl⟩ := Prod.mk.inj (Option.some.inj h)
      exact s.windowRun_fixed k v _ (by simp [State.fixed, hv])
    · cases h
  · rfl

@[simp] theorem State.graceOver_fixed (s : State) (k : Nat) :
    (State.graceOver s k).fixed = s.fixed := by
  unfold State.graceOver
  split
  · rename_i w hw
    rw [State.demandBreak_fixed]
    exact s.putWindow_fixed k _ (by simp [State.fixed, hw])
  · rfl

@[simp] theorem State.holdOver_fixed (s : State) :
    (State.holdOver s).fixed = s.fixed := by
  unfold State.holdOver
  (repeat' split) <;> simp_all

@[simp] theorem State.burstOver_fixed (s : State) :
    (State.burstOver s).fixed = s.fixed := by
  unfold State.burstOver
  simp

@[simp] theorem State.cancelOver_fixed (s : State) :
    (State.cancelOver s).fixed = s.fixed := by
  unfold State.cancelOver
  simp

@[simp] theorem State.gapOver_fixed (s : State) :
    (State.gapOver s).fixed = s.fixed := by
  unfold State.gapOver
  simp

@[simp] theorem State.watchOver_fixed (s : State) (e : DistressEntry) :
    (State.watchOver s e).fixed = s.fixed := by
  unfold State.watchOver
  simp

@[simp] theorem State.holdOffOver_fixed (s : State) (e : DistressEntry) :
    (State.holdOffOver s e).fixed = s.fixed := by
  unfold State.holdOffOver
  simp

@[simp] theorem State.repeatOver_fixed (s : State) :
    (State.repeatOver s).fixed = s.fixed := by
  unfold State.repeatOver
  (repeat' split) <;> simp_all

end Sys2Proof.Machine
end

