-- ==== Sys2Proof/Laws/Outcome.lean ====
section
/-! SUPPORT. What the shared outcomes come to (`State.taken`, `State.timed`, `State.timedOn`) and what a whole request
comes to (`State.request`), once for each case, so that a proof about a command need not unfold them; and how long STATUS
items 9 and 12 are, whose lists vary. -/

namespace Sys2Proof.Machine

/-- While RESET is low nothing is taken. -/
theorem State.taken_low {s : State} (h : s.resetLow = true) (f : State → State) : s.taken f = .next s := by
  simp [State.taken, h]

/-- Otherwise the command acts. -/
theorem State.taken_high {s : State} (h : s.resetLow = false) (f : State → State) : s.taken f = .next (f s) := by
  simp [State.taken, h]

/-- While RESET is low no timer acts. -/
theorem State.timed_low {s : State} (h : s.resetLow = true) (due : Bool) (f : State → State) :
    s.timed due f = .next s := State.taken_low h _

/-- A timer that is due acts. -/
theorem State.timed_due {s : State} (h : s.resetLow = false) {due : Bool} (hd : due = true) (f : State → State) :
    s.timed due f = .next (f s) := by
  subst hd; exact State.taken_high h _

/-- A timer that is not due changes nothing. -/
theorem State.timed_not_due (s : State) {due : Bool} (hd : due = false) (f : State → State) :
    s.timed due f = .next s := by
  subst hd; simp [State.timed, State.taken]

/-- While RESET is low nothing acts. -/
theorem State.timedOn_low {α : Type} {s : State} (h : s.resetLow = true) (x : Option α) (f : State → α → State) :
    s.timedOn x f = .next s := State.taken_low h _

/-- What stands is acted on. -/
theorem State.timedOn_some {α : Type} {s : State} (h : s.resetLow = false) {x : Option α} {a : α} (hx : x = some a)
    (f : State → α → State) : s.timedOn x f = .next (f s a) := by
  subst hx; exact State.taken_high h _

/-- Where nothing stands nothing changes. -/
theorem State.timedOn_none {α : Type} (s : State) {x : Option α} (hx : x = none) (f : State → α → State) :
    s.timedOn x f = .next s := by
  subst hx; simp [State.timedOn, State.taken]

/-- A frame from another station acts. -/
theorem State.fromBus_hears {s : State} {src : Byte} (h : s.hears src) (f : State → State) :
    s.fromBus src f = f s := by
  simp [State.fromBus, h.1, h.2]

/-- A source that may make any request may make this one. -/
theorem State.entitled_bridge {s : State} {r : Request} (h : s.bridge r.src) (cls : Nat) : s.entitled cls r = true := by
  rcases h with h | h <;> simp [State.entitled, h]

/-- A request of a class that is not bridge-only may come from any source. -/
theorem State.entitled_open (s : State) {cls : Nat} (h : bridgeOnly cls = false) (r : Request) :
    s.entitled cls r = true := by
  simp [State.entitled, h]

/-- A whole request, with no assembly of its source open, that its source may make reaches its owner. -/
theorem State.request_takes {s : State} {r : Request} (h : s.takes r) {cls : Nat} (he : s.entitled cls r = true)
    (owner : State → Request → State) : s.request cls r owner = owner s r := by
  simp [State.request, State.fromBus_hears h.1, State.clearAssembly, h.2, State.whole, he]

/-- A whole bridge-only request whose source may not make it is refused by the port. -/
theorem State.request_refused {s : State} {r : Request} (h : s.takes r) {cls : Nat} (he : s.entitled cls r = false)
    (owner : State → Request → State) : s.request cls r owner =
      State.result { s with port := { s.port with accessRefusals := bump s.port.accessRefusals } } cls r .notAllowed
        [] := by
  simp [State.request, State.fromBus_hears h.1, State.clearAssembly, h.2, State.whole, he]

/-- The command of a request whose class is open to any source. -/
theorem State.taken_request {s : State} {r : Request} (h : s.takes r) {cls : Nat} (hc : bridgeOnly cls = false)
    (owner : State → Request → State) : (s.taken fun t => t.request cls r owner) = .next (owner s r) := by
  rw [State.taken_high h.1.1, State.request_takes h (s.entitled_open hc r)]

/-- The command of a bridge-only request from a source that may make it. -/
theorem State.taken_bridge {s : State} {r : Request} (h : s.takes r) (hb : s.bridge r.src) (cls : Nat)
    (owner : State → Request → State) : (s.taken fun t => t.request cls r owner) = .next (owner s r) := by
  rw [State.taken_high h.1.1, State.request_takes h (State.entitled_bridge hb cls)]

/-! ### The lengths of STATUS items 9 and 12 -/

theorem contentWidth_append (xs ys : List Field) : contentWidth (xs ++ ys) = contentWidth xs + contentWidth ys := by
  simp [contentWidth]

/-- A list of things of one length each. -/
theorem contentWidth_flatten {α : Type} (f : α → List Field) {w : Nat} (h : ∀ a, contentWidth (f a) = w) (xs : List α) :
    contentWidth (xs.map f).flatten = w * xs.length := by
  induction xs with
  | nil => rfl
  | cons a xs ih => simp [contentWidth_append, h, ih, Nat.mul_succ, Nat.add_comm]

/-- A reading takes five bytes, set or not. -/
theorem contentWidth_readingOr (r : Option Reading) : contentWidth (readingOr r) = 5 := by
  cases r <;> rfl

/-- A set of letters takes 26 bytes. -/
theorem contentWidth_letterFlags (set : BitVec 26) : contentWidth (letterFlags set) = 26 := by
  simp [contentWidth, letterFlags, Function.comp_def, flag, Field.width]

/-- Two bytes for each window, and one for each grace that runs. -/
theorem State.windowItems_width (s : State) (ws : List LiveWindow) :
    contentWidth (ws.map s.windowItems).flatten = 2 * ws.length + (ws.filter (·.grace.isSome)).length := by
  induction ws with
  | nil => rfl
  | cons w ws ih =>
    have h : contentWidth (s.windowItems w) = 2 + w.grace.toList.length := by
      cases hw : w.grace <;> simp [State.windowItems, hw, contentWidth, Field.width, flag]
    rw [List.map_cons, List.flatten_cons, contentWidth_append, ih, h]
    cases hw : w.grace <;> simp [hw] <;> omega

/-- Item 9 is 76 bytes, and what its windows take. -/
theorem State.itemBulletins_width (s : State) : contentWidth s.itemBulletins =
    76 + 2 * s.bul.windows.length + (s.bul.windows.filter (·.grace.isSome)).length := by
  simp only [State.itemBulletins, contentWidth_append, contentWidth_letterFlags, State.windowItems_width]
  simp only [contentWidth, List.map_cons, List.map_nil, List.sum_cons, List.sum_nil, countOf, flag, Field.width]
  omega

/-- With at most eight windows and at most two graces running item 9 has at most R201's 15 continuations. -/
theorem State.itemBulletins_fits (s : State) (h : s.bul.windows.length ≤ 8)
    (h' : (s.bul.windows.filter (·.grace.isSome)).length ≤ 2) : continuations 4 s.itemBulletins ≤ 15 := by
  simp only [continuations, State.itemBulletins_width]
  omega

/-- Item 12 is 28 bytes, and 16 for each watch entry. -/
theorem State.itemTally_width (s : State) : contentWidth s.itemTally = 28 + 16 * s.tally.watch.length := by
  have h (w : ReportWatch) : contentWidth (s.watchItems w) = 16 := by
    simp only [State.watchItems, contentWidth_append, contentWidth_readingOr]; rfl
  simp only [State.itemTally, contentWidth_append, contentWidth_readingOr, contentWidth_flatten _ h]
  cases s.tally.closeDay <;> cases s.tally.pending <;> simp [contentWidth, Field.width, numOr, orAbsent, flag, secs4] <;>
    omega

/-- With the at most four watch entries of R153 item 12 has at most R201's 15 continuations. -/
theorem State.itemTally_fits (s : State) (h : s.tally.watch.length ≤ 4) : continuations 4 s.itemTally ≤ 15 := by
  simp only [continuations, State.itemTally_width]
  omega

end Sys2Proof.Machine
end

