-- ==== Sys2Proof/WellFormed.lean ====
section
/-! DEFINITION. Which commands are well formed: the bounds the manual gives the things a command carries, so what a
source can put on the bus or a timer can name. `exec` is total and asks for none of them. -/

namespace Sys2Proof.WellFormed

/-- The parameter bytes of a request fit its lead frame and its at most 15 continuations, six bytes in each
(R201, R202). -/
def params (p : List Byte) : Bool := p.length ≤ 96

/-- The bytes after an item code: one fewer (R210, R213). -/
def itemParams (p : List Byte) : Bool := p.length ≤ 95

/-- A source is a station number, 0–254 (R201). -/
def source (b : Byte) : Bool := b != 255

/-- A whole request (R201, R202). -/
def request (r : Request) : Bool := source r.src && params r.params

/-- A whole CONFIGURE or STATUS request, its item code in the row (R210, R213). -/
def itemRequest (r : Request) : Bool := source r.src && itemParams r.params

/-- A CAN frame holds at most eight data bytes (R201). -/
def frame (f : CanFrame) : Bool := source f.src && f.data.length ≤ 8

/-- The parameters of one lead frame: at most six bytes (R201). -/
def lead (r : Request) : Bool := source r.src && r.params.length ≤ 6

/-- The parameters of one continuation: one to six bytes (R201). -/
def continuation (r : Request) : Bool := source r.src && r.params != [] && r.params.length ≤ 6

/-- A TEXT frame holds one to seven text bytes after its sequence (R206). -/
def fragment (bytes : List Byte) : Bool := bytes != [] && bytes.length ≤ 7

/-- A call is five digits (00_scope, "Call, call number"). -/
def call (c : Nat) : Bool := c ≤ 99999

/-- A reference is 1–255 (R93, R104). -/
def reference (n : Nat) : Bool := 1 ≤ n && n ≤ 255

/-- A window's number is 1–8 (R129). -/
def window (n : Nat) : Bool := 1 ≤ n && n ≤ 8

/-- A report serial is 1–999 (R144). -/
def serial (n : Nat) : Bool := 1 ≤ n && n ≤ 999

end Sys2Proof.WellFormed

namespace Sys2Proof

/-- The well-formed commands. -/
def Instr.wf : Instr → Bool
  | .powerOn _ _ _ _ _ => true
  | .linkRestart r => WellFormed.request r
  | .rxsStrobe _ _ => true
  | .strobeGap => true
  | .linkedTimeout => true
  | .clearInterval => true
  | .pendingHalfExpiry => true
  | .overheardLinkTimeout => true
  | .entryAging c => WellFormed.call c
  | .alarmPulse => true
  | .startTransmission => true
  | .linkSlotStart => true
  | .transmissionComplete => true
  | .consideration => true
  | .backoffEnd => true
  | .cycleBoundary => true
  | .sessionSlotRead => true
  | .nextEligibleReached n => WellFormed.reference n
  | .partialExpiry n => WellFormed.reference n
  | .heardListExpiry => true
  | .windowBoundary n => WellFormed.window n
  | .graceExpiry n => WellFormed.window n
  | .closeInstant => true
  | .closeRetry => true
  | .reportOverdue n => WellFormed.serial n
  | .burstTimerExpiry => true
  | .distressHeld => true
  | .cancelTimerExpiry => true
  | .cancelGapExpiry => true
  | .watchExpiry c => WellFormed.call c
  | .holdOffExpiry c => WellFormed.call c
  | .alarmRepeat => true
  | .entryRemoval c => WellFormed.call c
  | .silenceEnd => true
  | .rawLevelChange _ _ => true
  | .acceptedChange _ => true
  | .time src _ _ => WellFormed.source src
  | .syncLapse => true
  | .position src _ _ => WellFormed.source src
  | .malformedFrame f => WellFormed.frame f
  | .assemblyLead _ r count => WellFormed.lead r && count.toNat ≤ 15
  | .requestContinuation r index => WellFormed.continuation r && 1 ≤ index.toNat && index.toNat ≤ 15
  | .assemblyTimeout src => WellFormed.source src
  | .raiseDistress r => WellFormed.request r
  | .cancelDistress r => WellFormed.request r
  | .acknowledgeAlert r => WellFormed.request r
  | .sendMessage r => WellFormed.request r
  | .text src _ bytes => WellFormed.source src && WellFormed.fragment bytes
  | .intakeTimeout => true
  | .cancelMessage r => WellFormed.request r
  | .readMessage r => WellFormed.request r
  | .readBulletin r => WellFormed.request r
  | .readoutText => true
  | .endOfText => true
  | .frameCarried => true
  | .sendingStops => true
  | .sendingResumes => true
  | .readoutStall => true
  | .haulEntry r => WellFormed.request r
  | .closeReport r => WellFormed.request r
  | .setSelection r => WellFormed.request r
  | .setAux r => WellFormed.request r
  | .configureOwnCall r => WellFormed.itemRequest r
  | .configurePortOffice r => WellFormed.itemRequest r
  | .configureBridgeStations r => WellFormed.itemRequest r
  | .configureQuotas r => WellFormed.itemRequest r
  | .configureRelayMode r => WellFormed.itemRequest r
  | .configureBusyRule r => WellFormed.itemRequest r
  | .configureCdFilterTime r => WellFormed.itemRequest r
  | .configureScheduleWindow r => WellFormed.itemRequest r
  | .configureClearSchedule r => WellFormed.itemRequest r
  | .configureInitialSelection r => WellFormed.itemRequest r
  | .configureOriginFilter r => WellFormed.itemRequest r
  | .configureCloseHour r => WellFormed.itemRequest r
  | .configureReportDeadline r => WellFormed.itemRequest r
  | .configureNextSerial r => WellFormed.itemRequest r
  | .configureWatchInterval r => WellFormed.itemRequest r
  | .configureCallThreshold r => WellFormed.itemRequest r
  | .configureGoodLimit r => WellFormed.itemRequest r
  | .configurePoorLimit r => WellFormed.itemRequest r
  | .configurePageLimit r => WellFormed.itemRequest r
  | .configureAuxDistressMode r => WellFormed.itemRequest r
  | .configureDone r => WellFormed.request r
  | .configWindowExpiry => true
  | .statusLinkController r => WellFormed.itemRequest r
  | .statusNetMonitor r => WellFormed.itemRequest r
  | .statusStationEntry r => WellFormed.itemRequest r
  | .statusReceiveDecoder r => WellFormed.itemRequest r
  | .statusOutgoingQueue r => WellFormed.itemRequest r
  | .statusOutgoingRecord r => WellFormed.itemRequest r
  | .statusIncomingList r => WellFormed.itemRequest r
  | .statusIncomingRecord r => WellFormed.itemRequest r
  | .statusBulletinReceiver r => WellFormed.itemRequest r
  | .statusBulletinRecord r => WellFormed.itemRequest r
  | .statusTextStore r => WellFormed.itemRequest r
  | .statusCatchTally r => WellFormed.itemRequest r
  | .statusHaulEntry r => WellFormed.itemRequest r
  | .statusTallyRow r => WellFormed.itemRequest r
  | .statusDistressUnit r => WellFormed.itemRequest r
  | .statusDistressEntry r => WellFormed.itemRequest r
  | .statusLines r => WellFormed.itemRequest r
  | .statusClock r => WellFormed.itemRequest r
  | .statusBusPort r => WellFormed.itemRequest r
  | .resetLow => true

end Sys2Proof
end

