-- ==== Sys2Proof/Laws/PerInstr.lean ====
section
/-! SUPPORT. A family of laws, one lemma for each command: a well-formed command that comes from another station names
its source by a station number, never by 255, which addresses all stations (R200, R201). -/

namespace Sys2Proof.Laws

/-- The station that sends a command over the vessel bus, for the commands that one sends. -/
def senderOf : Instr → Option Byte
  | .powerOn _ _ _ _ _ => none
  | .linkRestart r => some r.src
  | .rxsStrobe _ _ => none
  | .strobeGap => none
  | .linkedTimeout => none
  | .clearInterval => none
  | .pendingHalfExpiry => none
  | .overheardLinkTimeout => none
  | .entryAging _ => none
  | .alarmPulse => none
  | .startTransmission => none
  | .linkSlotStart => none
  | .transmissionComplete => none
  | .consideration => none
  | .backoffEnd => none
  | .cycleBoundary => none
  | .sessionSlotRead => none
  | .nextEligibleReached _ => none
  | .partialExpiry _ => none
  | .heardListExpiry => none
  | .windowBoundary _ => none
  | .graceExpiry _ => none
  | .closeInstant => none
  | .closeRetry => none
  | .reportOverdue _ => none
  | .burstTimerExpiry => none
  | .distressHeld => none
  | .cancelTimerExpiry => none
  | .cancelGapExpiry => none
  | .watchExpiry _ => none
  | .holdOffExpiry _ => none
  | .alarmRepeat => none
  | .entryRemoval _ => none
  | .silenceEnd => none
  | .rawLevelChange _ _ => none
  | .acceptedChange _ => none
  | .time src _ _ => some src
  | .syncLapse => none
  | .position src _ _ => some src
  | .malformedFrame f => some f.src
  | .assemblyLead _ r _ => some r.src
  | .requestContinuation r _ => some r.src
  | .assemblyTimeout src => some src
  | .raiseDistress r => some r.src
  | .cancelDistress r => some r.src
  | .acknowledgeAlert r => some r.src
  | .sendMessage r => some r.src
  | .text src _ _ => some src
  | .intakeTimeout => none
  | .cancelMessage r => some r.src
  | .readMessage r => some r.src
  | .readBulletin r => some r.src
  | .readoutText => none
  | .endOfText => none
  | .frameCarried => none
  | .sendingStops => none
  | .sendingResumes => none
  | .readoutStall => none
  | .haulEntry r => some r.src
  | .closeReport r => some r.src
  | .setSelection r => some r.src
  | .setAux r => some r.src
  | .configureOwnCall r => some r.src
  | .configurePortOffice r => some r.src
  | .configureBridgeStations r => some r.src
  | .configureQuotas r => some r.src
  | .configureRelayMode r => some r.src
  | .configureBusyRule r => some r.src
  | .configureCdFilterTime r => some r.src
  | .configureScheduleWindow r => some r.src
  | .configureClearSchedule r => some r.src
  | .configureInitialSelection r => some r.src
  | .configureOriginFilter r => some r.src
  | .configureCloseHour r => some r.src
  | .configureReportDeadline r => some r.src
  | .configureNextSerial r => some r.src
  | .configureWatchInterval r => some r.src
  | .configureCallThreshold r => some r.src
  | .configureGoodLimit r => some r.src
  | .configurePoorLimit r => some r.src
  | .configurePageLimit r => some r.src
  | .configureAuxDistressMode r => some r.src
  | .configureDone r => some r.src
  | .configWindowExpiry => none
  | .statusLinkController r => some r.src
  | .statusNetMonitor r => some r.src
  | .statusStationEntry r => some r.src
  | .statusReceiveDecoder r => some r.src
  | .statusOutgoingQueue r => some r.src
  | .statusOutgoingRecord r => some r.src
  | .statusIncomingList r => some r.src
  | .statusIncomingRecord r => some r.src
  | .statusBulletinReceiver r => some r.src
  | .statusBulletinRecord r => some r.src
  | .statusTextStore r => some r.src
  | .statusCatchTally r => some r.src
  | .statusHaulEntry r => some r.src
  | .statusTallyRow r => some r.src
  | .statusDistressUnit r => some r.src
  | .statusDistressEntry r => some r.src
  | .statusLines r => some r.src
  | .statusClock r => some r.src
  | .statusBusPort r => some r.src
  | .resetLow => none

/-- A well-formed command's sender is a station number. -/
def Rows.Statement (i : Instr) : Prop := i.wf = true → senderOf i ≠ some 255

/-- A source that is a station number. -/
theorem source_ne {b : Byte} (h : WellFormed.source b = true) : some b ≠ some 255 := by
  intro hb
  cases hb
  exact absurd h (by decide)

/-- A test of which the source's is the first part. -/
theorem source_first {b : Byte} {rest : Bool} (h : (WellFormed.source b && rest) = true) : some b ≠ some 255 :=
  source_ne (Bool.and_eq_true_iff.mp h).1

/-- A command that no station sends. -/
theorem no_sender {h : Bool} : h = true → (none : Option Byte) ≠ some 255 := fun _ => nofun

theorem Rows.powerOn : ∀ straps dis cnl txinh cd, Rows.Statement (.powerOn straps dis cnl txinh cd) :=
  fun _ _ _ _ _ => no_sender

theorem Rows.linkRestart : ∀ r, Rows.Statement (.linkRestart r) := fun _ h => source_first h

theorem Rows.rxsStrobe : ∀ bit confidence, Rows.Statement (.rxsStrobe bit confidence) := fun _ _ => no_sender

theorem Rows.strobeGap : Rows.Statement .strobeGap := no_sender

theorem Rows.linkedTimeout : Rows.Statement .linkedTimeout := no_sender

theorem Rows.clearInterval : Rows.Statement .clearInterval := no_sender

theorem Rows.pendingHalfExpiry : Rows.Statement .pendingHalfExpiry := no_sender

theorem Rows.overheardLinkTimeout : Rows.Statement .overheardLinkTimeout := no_sender

theorem Rows.entryAging : ∀ call, Rows.Statement (.entryAging call) := fun _ => no_sender

theorem Rows.alarmPulse : Rows.Statement .alarmPulse := no_sender

theorem Rows.startTransmission : Rows.Statement .startTransmission := no_sender

theorem Rows.linkSlotStart : Rows.Statement .linkSlotStart := no_sender

theorem Rows.transmissionComplete : Rows.Statement .transmissionComplete := no_sender

theorem Rows.consideration : Rows.Statement .consideration := no_sender

theorem Rows.backoffEnd : Rows.Statement .backoffEnd := no_sender

theorem Rows.cycleBoundary : Rows.Statement .cycleBoundary := no_sender

theorem Rows.sessionSlotRead : Rows.Statement .sessionSlotRead := no_sender

theorem Rows.nextEligibleReached : ∀ ref, Rows.Statement (.nextEligibleReached ref) := fun _ => no_sender

theorem Rows.partialExpiry : ∀ ref, Rows.Statement (.partialExpiry ref) := fun _ => no_sender

theorem Rows.heardListExpiry : Rows.Statement .heardListExpiry := no_sender

theorem Rows.windowBoundary : ∀ window, Rows.Statement (.windowBoundary window) := fun _ => no_sender

theorem Rows.graceExpiry : ∀ window, Rows.Statement (.graceExpiry window) := fun _ => no_sender

theorem Rows.closeInstant : Rows.Statement .closeInstant := no_sender

theorem Rows.closeRetry : Rows.Statement .closeRetry := no_sender

theorem Rows.reportOverdue : ∀ serial, Rows.Statement (.reportOverdue serial) := fun _ => no_sender

theorem Rows.burstTimerExpiry : Rows.Statement .burstTimerExpiry := no_sender

theorem Rows.distressHeld : Rows.Statement .distressHeld := no_sender

theorem Rows.cancelTimerExpiry : Rows.Statement .cancelTimerExpiry := no_sender

theorem Rows.cancelGapExpiry : Rows.Statement .cancelGapExpiry := no_sender

theorem Rows.watchExpiry : ∀ origin, Rows.Statement (.watchExpiry origin) := fun _ => no_sender

theorem Rows.holdOffExpiry : ∀ origin, Rows.Statement (.holdOffExpiry origin) := fun _ => no_sender

theorem Rows.alarmRepeat : Rows.Statement .alarmRepeat := no_sender

theorem Rows.entryRemoval : ∀ origin, Rows.Statement (.entryRemoval origin) := fun _ => no_sender

theorem Rows.silenceEnd : Rows.Statement .silenceEnd := no_sender

theorem Rows.rawLevelChange : ∀ line high, Rows.Statement (.rawLevelChange line high) := fun _ _ => no_sender

theorem Rows.acceptedChange : ∀ line, Rows.Statement (.acceptedChange line) := fun _ => no_sender

theorem Rows.time : ∀ src day seconds, Rows.Statement (.time src day seconds) := fun _ _ _ h => source_ne h

theorem Rows.syncLapse : Rows.Statement .syncLapse := no_sender

theorem Rows.position : ∀ src latitude longitude, Rows.Statement (.position src latitude longitude) :=
  fun _ _ _ h => source_ne h

theorem Rows.malformedFrame : ∀ f, Rows.Statement (.malformedFrame f) := fun _ h => source_first h

theorem Rows.assemblyLead : ∀ cls r count, Rows.Statement (.assemblyLead cls r count) :=
  fun _ _ _ h => source_first (Bool.and_eq_true_iff.mp h).1

theorem Rows.requestContinuation : ∀ r index, Rows.Statement (.requestContinuation r index) := fun _ _ h => 
  source_ne (Bool.and_eq_true_iff.mp (Bool.and_eq_true_iff.mp (Bool.and_eq_true_iff.mp (Bool.and_eq_true_iff.mp h).1).1).1).1

theorem Rows.assemblyTimeout : ∀ src, Rows.Statement (.assemblyTimeout src) := fun _ h => source_ne h

theorem Rows.raiseDistress : ∀ r, Rows.Statement (.raiseDistress r) := fun _ h => source_first h

theorem Rows.cancelDistress : ∀ r, Rows.Statement (.cancelDistress r) := fun _ h => source_first h

theorem Rows.acknowledgeAlert : ∀ r, Rows.Statement (.acknowledgeAlert r) := fun _ h => source_first h

theorem Rows.sendMessage : ∀ r, Rows.Statement (.sendMessage r) := fun _ h => source_first h

theorem Rows.text : ∀ src sequence bytes, Rows.Statement (.text src sequence bytes) := fun _ _ _ h => source_first h

theorem Rows.intakeTimeout : Rows.Statement .intakeTimeout := no_sender

theorem Rows.cancelMessage : ∀ r, Rows.Statement (.cancelMessage r) := fun _ h => source_first h

theorem Rows.readMessage : ∀ r, Rows.Statement (.readMessage r) := fun _ h => source_first h

theorem Rows.readBulletin : ∀ r, Rows.Statement (.readBulletin r) := fun _ h => source_first h

theorem Rows.readoutText : Rows.Statement .readoutText := no_sender

theorem Rows.endOfText : Rows.Statement .endOfText := no_sender

theorem Rows.frameCarried : Rows.Statement .frameCarried := no_sender

theorem Rows.sendingStops : Rows.Statement .sendingStops := no_sender

theorem Rows.sendingResumes : Rows.Statement .sendingResumes := no_sender

theorem Rows.readoutStall : Rows.Statement .readoutStall := no_sender

theorem Rows.haulEntry : ∀ r, Rows.Statement (.haulEntry r) := fun _ h => source_first h

theorem Rows.closeReport : ∀ r, Rows.Statement (.closeReport r) := fun _ h => source_first h

theorem Rows.setSelection : ∀ r, Rows.Statement (.setSelection r) := fun _ h => source_first h

theorem Rows.setAux : ∀ r, Rows.Statement (.setAux r) := fun _ h => source_first h

theorem Rows.configureOwnCall : ∀ r, Rows.Statement (.configureOwnCall r) := fun _ h => source_first h

theorem Rows.configurePortOffice : ∀ r, Rows.Statement (.configurePortOffice r) := fun _ h => source_first h

theorem Rows.configureBridgeStations : ∀ r, Rows.Statement (.configureBridgeStations r) := fun _ h => source_first h

theorem Rows.configureQuotas : ∀ r, Rows.Statement (.configureQuotas r) := fun _ h => source_first h

theorem Rows.configureRelayMode : ∀ r, Rows.Statement (.configureRelayMode r) := fun _ h => source_first h

theorem Rows.configureBusyRule : ∀ r, Rows.Statement (.configureBusyRule r) := fun _ h => source_first h

theorem Rows.configureCdFilterTime : ∀ r, Rows.Statement (.configureCdFilterTime r) := fun _ h => source_first h

theorem Rows.configureScheduleWindow : ∀ r, Rows.Statement (.configureScheduleWindow r) := fun _ h => source_first h

theorem Rows.configureClearSchedule : ∀ r, Rows.Statement (.configureClearSchedule r) := fun _ h => source_first h

theorem Rows.configureInitialSelection : ∀ r, Rows.Statement (.configureInitialSelection r) :=
  fun _ h => source_first h

theorem Rows.configureOriginFilter : ∀ r, Rows.Statement (.configureOriginFilter r) := fun _ h => source_first h

theorem Rows.configureCloseHour : ∀ r, Rows.Statement (.configureCloseHour r) := fun _ h => source_first h

theorem Rows.configureReportDeadline : ∀ r, Rows.Statement (.configureReportDeadline r) := fun _ h => source_first h

theorem Rows.configureNextSerial : ∀ r, Rows.Statement (.configureNextSerial r) := fun _ h => source_first h

theorem Rows.configureWatchInterval : ∀ r, Rows.Statement (.configureWatchInterval r) := fun _ h => source_first h

theorem Rows.configureCallThreshold : ∀ r, Rows.Statement (.configureCallThreshold r) := fun _ h => source_first h

theorem Rows.configureGoodLimit : ∀ r, Rows.Statement (.configureGoodLimit r) := fun _ h => source_first h

theorem Rows.configurePoorLimit : ∀ r, Rows.Statement (.configurePoorLimit r) := fun _ h => source_first h

theorem Rows.configurePageLimit : ∀ r, Rows.Statement (.configurePageLimit r) := fun _ h => source_first h

theorem Rows.configureAuxDistressMode : ∀ r, Rows.Statement (.configureAuxDistressMode r) := fun _ h => source_first h

theorem Rows.configureDone : ∀ r, Rows.Statement (.configureDone r) := fun _ h => source_first h

theorem Rows.configWindowExpiry : Rows.Statement .configWindowExpiry := no_sender

theorem Rows.statusLinkController : ∀ r, Rows.Statement (.statusLinkController r) := fun _ h => source_first h

theorem Rows.statusNetMonitor : ∀ r, Rows.Statement (.statusNetMonitor r) := fun _ h => source_first h

theorem Rows.statusStationEntry : ∀ r, Rows.Statement (.statusStationEntry r) := fun _ h => source_first h

theorem Rows.statusReceiveDecoder : ∀ r, Rows.Statement (.statusReceiveDecoder r) := fun _ h => source_first h

theorem Rows.statusOutgoingQueue : ∀ r, Rows.Statement (.statusOutgoingQueue r) := fun _ h => source_first h

theorem Rows.statusOutgoingRecord : ∀ r, Rows.Statement (.statusOutgoingRecord r) := fun _ h => source_first h

theorem Rows.statusIncomingList : ∀ r, Rows.Statement (.statusIncomingList r) := fun _ h => source_first h

theorem Rows.statusIncomingRecord : ∀ r, Rows.Statement (.statusIncomingRecord r) := fun _ h => source_first h

theorem Rows.statusBulletinReceiver : ∀ r, Rows.Statement (.statusBulletinReceiver r) := fun _ h => source_first h

theorem Rows.statusBulletinRecord : ∀ r, Rows.Statement (.statusBulletinRecord r) := fun _ h => source_first h

theorem Rows.statusTextStore : ∀ r, Rows.Statement (.statusTextStore r) := fun _ h => source_first h

theorem Rows.statusCatchTally : ∀ r, Rows.Statement (.statusCatchTally r) := fun _ h => source_first h

theorem Rows.statusHaulEntry : ∀ r, Rows.Statement (.statusHaulEntry r) := fun _ h => source_first h

theorem Rows.statusTallyRow : ∀ r, Rows.Statement (.statusTallyRow r) := fun _ h => source_first h

theorem Rows.statusDistressUnit : ∀ r, Rows.Statement (.statusDistressUnit r) := fun _ h => source_first h

theorem Rows.statusDistressEntry : ∀ r, Rows.Statement (.statusDistressEntry r) := fun _ h => source_first h

theorem Rows.statusLines : ∀ r, Rows.Statement (.statusLines r) := fun _ h => source_first h

theorem Rows.statusClock : ∀ r, Rows.Statement (.statusClock r) := fun _ h => source_first h

theorem Rows.statusBusPort : ∀ r, Rows.Statement (.statusBusPort r) := fun _ h => source_first h

theorem Rows.resetLow : Rows.Statement .resetLow := no_sender

end Sys2Proof.Laws
end

