-- ==== Sys2Proof/Tests/Slice0.lean ====
section
/-! SUPPORT. Tests. Ill-formed commands, one for each check of WellFormed; results written out from the manual's worked
values; and, for every statement with hypotheses, a state and operands that meet them, clause by clause, at a boundary
where there is one. -/

namespace Sys2Proof.Tests

open Sys2Proof Sys2Proof.Machine

/-! ### Small states -/

/-- The part at a moment with nothing done since reset. -/
def fresh (n : Nat) : State := { State.reset with now := n }

/-- The part at a moment after CONFIG CLOSED, with an own call and a port office, and nothing else done. -/
def up (n : Nat) : State :=
  { fresh n with
    port := { State.reset.port with window := none },
    cfg := { State.reset.cfg with ownCall := some 12345, portOffice := some 90001 } }

/-- A request from station 7. -/
def req (params : List Byte) : Request := { src := 7, tag := 1, params := params }

/-- Symbols of sure bits. -/
def symsOf (time : Nat) (bits : List Bool) : List Sym := bits.map fun b => { bit := b, conf := 7, time := time }

/-- A frame of each kind, with as many fields as its format has. -/
def frameOf (kind : FrameKind) : FrameReq :=
  { kind := kind, fields := List.replicate kind.type.fields 98, placed := 0 }

/-- An outgoing record for 54321. -/
def outOf (cls : Nat) (st : OutState) : OutRec :=
  { ref := 1, dest := 54321, cls := cls, length := 10, offset := 0, attempts := 0, nextEligible := 0, state := st,
    order := 0, created := none, serial := none, lastEnd := none, told := false }

/-- An incoming record. -/
def incOf (st : IncState) : IncRec :=
  { ref := 1, origin := 54321, number := some 1, cls := 0, blocks := 1, truncated := false, state := st, before := none,
    lastChange := 0, changeTod := none, completed := 0 }

/-- A bulletin record. -/
def bulOf (st : BulState) : BulRec :=
  { index := 1, id := { origin1 := 65, origin2 := 66, subject := 67, area := 68, serial := 1 }, start := 0,
    startTod := none, c := 10, e := 0, r := some 0, pf := some 100, ending := some .whole, poor := false,
    truncated := false, read := false, state := st }

/-- A session with 54321, its first boundary at 0. -/
def sessionOf (cls : Nat) (caller : Bool) : Session := newSession 54321 cls caller none 1 0 0

/-- The part in a phase of a session. -/
def inPhase (n : Nat) (phase : Phase) (x : Session) : State :=
  { up n with link := { (up n).link with phase := phase, session := some x } }

/-- A distress list entry of 54321, serial 1, heard at 0. -/
def entryOf : DistressEntry :=
  { origin := 54321, serial := 1, nature := some 70, position := none, time := none, firstHeard := 0, firstTod := none,
    lastHeard := 0, best := 80, coastAck := none, bridgeAck := false, cancelled := false, relays := 0, relayers := [],
    relay := .idle, holdOff := none, due := false, watch := .running, watchEnd := 180000 }

/-- The part with one distress entry. -/
def withEntry (n : Nat) (e : DistressEntry) : State :=
  { up n with dis := { (up n).dis with list := [e], alarm := alarmOf [e] } }

/-- A station table entry of 54321. -/
def stationOf (st : StationState) : Station :=
  { call := 54321, q := 2048, heardCount := 1, lastHeard := some 0, state := st, stateTime := 0, partner := some 12345,
    pins := .empty }

/-- A window of 60 minutes from midnight. -/
def windowAt : Window :=
  { coast := 90001, origin1 := 65, origin2 := 66, start := 0, duration := 60, subject := 67, quiet := true }

/-- A clock set to midnight of day 0 at 0. -/
def clockSet : Clock := { Clock.powerOn with ref := some { since := 0, value := 0, stand := 0 } }

/-! ### Ill-formed commands -/

theorem wf_refuses_long_params : (Instr.sendMessage (req (List.replicate 97 0))).wf = false := by decide
theorem wf_refuses_long_item_params : (Instr.statusClock (req (List.replicate 96 0))).wf = false := by decide
theorem wf_refuses_source : (Instr.time 255 0 0).wf = false := by decide
theorem wf_refuses_request_source : (Instr.closeReport { src := 255, tag := 0, params := [] }).wf = false := by decide
theorem wf_refuses_long_frame :
    (Instr.malformedFrame { priority := 0, cls := 0, dest := 0, src := 1, data := List.replicate 9 0 }).wf = false := by
  decide
theorem wf_refuses_long_lead : (Instr.assemblyLead 96 (req (List.replicate 7 0)) 0).wf = false := by decide
theorem wf_refuses_lead_count : (Instr.assemblyLead 96 (req []) 16).wf = false := by decide
theorem wf_refuses_empty_continuation : (Instr.requestContinuation (req []) 1).wf = false := by decide
theorem wf_refuses_long_continuation : (Instr.requestContinuation (req (List.replicate 7 0)) 1).wf = false := by decide
theorem wf_refuses_continuation_index : (Instr.requestContinuation (req [0]) 0).wf = false := by decide
theorem wf_refuses_empty_text : (Instr.text 7 0 []).wf = false := by decide
theorem wf_refuses_long_text : (Instr.text 7 0 (List.replicate 8 65)).wf = false := by decide
theorem wf_refuses_call : (Instr.entryAging 100000).wf = false := by decide
theorem wf_refuses_reference : (Instr.partialExpiry 0).wf = false := by decide
theorem wf_refuses_window : (Instr.windowBoundary 9).wf = false := by decide
theorem wf_refuses_serial : (Instr.reportOverdue 1000).wf = false := by decide

/-! ### The manual's worked values -/

/-- Chapter 1, the example of a DCANCEL on the air: its fifteen character pairs. -/
theorem test_dcancel_on_the_air :
    (FrameReq.slots { kind := .dcancel, fields := [20, 16, 21, 17, 23, 16, 19], placed := 0 }).drop 24 =
      [104, 98, 20, 98, 16, 98, 21, 98, 17, 104, 23, 20, 16, 16, 19, 21, 100, 17, 100, 23, 100, 16, 98, 19, 98, 100,
       98, 100, 98, 100] := by decide

/-- R3's landmarks of the codeword order, the first-sent bit left. -/
theorem test_codeword_landmarks :
    codeword 0 = [false, false, false, false, true, true, true, true, true] ∧
    codeword 5 = [false, false, false, true, true, true, true, true, false] ∧
    codeword 55 = [false, true, true, true, true, true, false, false, false] ∧
    codeword 56 = [true, false, false, false, false, true, true, true, true] ∧
    codeword 125 = [true, true, true, true, true, false, false, false, false] := by decide

/-- R164's worked values: 4,032,345 is "6712N" and -485,950 is "00805W"; and the ends of both ranges. -/
theorem test_position_on_the_air :
    formatPosition { latitude := 4032345, longitude := -485950, arrival := 0 } =
      [22, 23, 17, 18, 46, 16, 16, 24, 16, 21, 55] ∧
    formatPosition { latitude := -5400000, longitude := 10800000, arrival := 0 } =
      [25, 16, 16, 16, 51, 17, 24, 16, 16, 16, 37] := by decide

/-- Chapter 1, the example of check characters: CALL-A of class 1 to 90100 has check 86. -/
theorem test_check_of_call : blockSlots [105, 17, 25, 16, 17, 16, 16] = [105, 17, 25, 16, 17, 16, 16, 86] := by decide

/-- The same example: five spaces in DATA have check 123. -/
theorem test_check_of_data : blockSlots [107, 16, 0, 0, 0, 0, 0] = [107, 16, 0, 0, 0, 0, 0, 123] := by decide

/-- Chapter 2, one accumulator through four samples. -/
theorem test_four_samples : [16, 16, 0, 12].foldl feedQ 2048 = 2211 ∧ percentOf 2211 = 54 := by decide

/-- Chapter 2, an alert frame of n = 24 and sum 342. -/
theorem test_alert_frame : framePercent 24 342 = 89 ∧ frameSample 24 342 = 14 := by decide

/-- Chapter 2, a stored forecast and short bodies. -/
theorem test_erasure_ratios :
    erasureRatio 1480 37 = 25 ∧ erasureRatio 2 1 = 500 ∧ erasureRatio 3 1 = 333 ∧ erasureRatio 3 2 = 667 := by decide

/-- Chapter 2, the hold-off for own call 40517. -/
theorem test_hold_offs : [100, 96, 89, 50, 0].map (fun p => holdOffOf p 40517) = [35, 37, 39, 59, 85] := by decide

/-- R20: a burst at the BURST position starts although the channel is busy. -/
theorem test_burst_starts_in_busy_channel :
    (let s := up 1000
     let t := { s with enc := { s.enc with burst := some (frameOf .burst) }, nm := { s.nm with busy := true } }
     match exec .startTransmission t with
     | .next u => u.key
     | _ => false) = true := by decide +kernel

/-- R189: RESET held low takes no request. -/
theorem test_reset_low_takes_nothing :
    exec (.haulEntry (req [])) { fresh 0 with resetLow := true } = .next { fresh 0 with resetLow := true } := rfl

/-- R140: a haul of 120 kg of "COD" in area "04B1" joins the list of a part just powered on. -/
theorem test_haul_joins :
    (match exec (.haulEntry (req [0, 1, 67, 79, 68, 48, 52, 66, 49, 0, 0, 120, 0, 0])) (fresh 0) with
     | .next t => t.tally.rows.map fun r => (r.sum, r.count)
     | _ => []) = [(120, 1)] := by decide +kernel

/-! ### Witnesses: states and operands that meet the statements' hypotheses -/

theorem witness_idle_step :
    (let s : State := { fresh 0 with resetLow := true }
     s.pending = [] ∧ s.resetLow = true) ∧
    ((fresh 30000).pending = [] ∧ (fresh 30000).resetLow = false ∧ (fresh 30000).nextDue.isSome = true) ∧
    ((fresh 0).pending = [] ∧ (fresh 0).resetLow = false ∧ (fresh 0).nextDue = none) := by decide +kernel

theorem witness_power_on_and_reset_low :
    (fresh 5).pending = (up 9).pending ∧ Instr.strobeGap.isReset = false ∧
    (State.heldInReset []).resetLow = true := by decide +kernel

theorem witness_power_on_empties_text_store : ∃ t, exec (.powerOn 255 true true false false) (up 9) = .next t := ⟨_, rfl⟩

theorem witness_linked_blocks :
    ([119, 119, 119, 119, 119].length = 5 ∧ ∀ i ∈ [119, 119, 119, 119, 119], i < 120) ∧
    ((symsOf 0 ((blockSlots ([BlockType.callB.index, cDigit 9] ++ [119, 119, 119, 119, 119])).map codeword).flatten).map
      (·.bit) = ((blockSlots ([BlockType.callB.index, cDigit 9] ++ [119, 119, 119, 119, 119])).map codeword).flatten) ∧
    ((symsOf 0 ((blockSlots ([BlockType.data.index, cDigit 7] ++ [0, 0, 0, 0, 0])).map codeword).flatten).map
      (·.bit) = ((blockSlots ([BlockType.data.index, cDigit 7] ++ [0, 0, 0, 0, 0])).map codeword).flatten) := by
  decide +kernel

theorem witness_linked_replies :
    (∀ r ∈ [Reply.mk .accept 23, Reply.mk .accept 52, Reply.mk .request 16, Reply.mk .ready 16, Reply.mk .hold 23,
      Reply.mk .brk 36, Reply.mk .restart 16], valueAllowed r.kind r.value = true) ∧
    (symsOf 0 ((Reply.mk .accept 23).chars.map codeword).flatten).map (·.bit) =
      ((Reply.mk .accept 23).chars.map codeword).flatten := by decide +kernel

theorem witness_transmission_times :
    (∀ k ∈ [FrameKind.burst, .relay, .dcancel], (frameOf k).fields.length = (frameOf k).kind.type.fields) ∧
    (∀ p ∈ entryOf.position, p.length = 11) ∧
    (∀ p ∈ { entryOf with position := some (List.replicate 11 16) }.position, p.length = 11) ∧
    (let r : LinkReq := { kind := .reply, chars := [114, 16], slotStart := 0, cls := 0, closing := false }
     r.kind = .reply ∧ r.chars.length = 2) ∧
    (let r : LinkReq := { kind := .block, chars := [107, 16, 0, 0, 0, 0, 0], slotStart := 0, cls := 0, closing := false }
     r.kind ≠ .reply ∧ r.chars.length = 7) := by decide +kernel

theorem witness_quality_arithmetic :
    ((16 : Nat) ≤ 16 ∧ (4096 : Nat) ≤ 4096 ∧ (15 : Nat) ≤ 15 ∧ (4095 : Nat) < 4096 ∧ 1 ≤ 16) ∧
    ((1 : Nat) ≤ 1 ∧ (16 : Nat) ≤ 16 * 1) ∧ ((1 : Nat) ≤ 1) ∧ ((100 : Nat) ≤ 100) := by decide

/-- 71 symbols of four phasing pairs, the last bit not yet taken. -/
def phasing71 : List Sym := (symsOf 0 (List.replicate 4 (codeword 96 ++ codeword 97)).flatten).dropLast

/-- A part with a given intake window. -/
def hearing (sync : SyncState) (window : List Sym) : State :=
  { fresh 1000 with dec := { (fresh 1000).dec with sync := sync, window := window, strobeRef := 900 } }

/-- A part with a transmission in flight. -/
def sending (n : Nat) (x : Transmission) : State := { up n with enc := { (up n).enc with inFlight := some x } }

/-- A DCANCEL in flight from 0. -/
def dcancelOut : Transmission := { item := .frame (frameOf .dcancel), slots := (frameOf .dcancel).slots, start := 0 }

theorem witness_strobe :
    ((sending 10 dcancelOut).resetLow = false ∧ (sending 10 dcancelOut).enc.inFlight ≠ none) ∧
    (let s := hearing .hunting (symsOf 0 (List.replicate 70 true))
     s.resetLow = false ∧ s.enc.inFlight = none ∧ s.dec.sync = .hunting ∧ s.dec.window.length < 71) := by
  decide +kernel

/-- A part in a spread stream. -/
def inStream (x : Stream) : State :=
  let s := hearing .spreadSync []
  { s with dec := { s.dec with stream := x } }

/-- A stream whose ninth symbol completes the second slot of pair `pair`, with an index `d` four pairs before and the
slots of this pair unreadable. -/
def atSlot (pair : Nat) (d : Option Nat) (frame : FrameState) : Stream :=
  { Stream.empty with
    phasing := none, pair := pair, part := symsOf 0 (List.replicate 8 false), f := some { index := none, conf := 0 },
    delay := List.replicate 4 { index := d, conf := 63 }, frame := frame }

/-- What `atSlot` decides. -/
def decides (x : Stream) (c : Option Nat) : Prop :=
  x.part.length = 8 ∧ x.marker = none ∧ x.phasing = none ∧ (x.pair + 1) % 64 ≠ 0 ∧ 4 ≤ x.pair ∧
  (x.delay.head?.map fun d =>
    (decideChar d (some (readCopy (x.part ++ [{ bit := false, conf := 7, time := 1000 }])))).1) = some c

theorem witness_copies :
    let one : Copy := { index := some 1, conf := 5 }
    let sure : Copy := { index := some 2, conf := 6 }
    let bad : Copy := { index := some 120, conf := 63 }
    one.valid = true ∧ sure.valid = true ∧ one.index ≠ sure.index ∧ one.conf < sure.conf ∧ bad.valid = false := by
  decide

theorem witness_stream_slots :
    (∀ x ∈ [atSlot 0 none .between, { atSlot 0 none .between with part := [] }],
      (inStream x).resetLow = false ∧ (inStream x).enc.inFlight = none ∧ (inStream x).dec.sync = .spreadSync ∧
      (inStream x).dec.stream = x) ∧
    ({ atSlot 0 none .between with part := [] }.part.length < 8) ∧
    (∀ k ∈ [some 0, some 10, some 11, none],
      let x := { atSlot 3 none .between with phasing := k, f := some { index := some 96, conf := 63 } }
      x.part.length = 8 ∧ x.marker = none ∧ (x.f.bind (·.index)) = some 96 ∧ x.phasing = k) ∧
    ((readCopy ((atSlot 0 none .between).part ++ [{ bit := false, conf := 7, time := 1000 }])).index ≠ some 97 ∧
      ((atSlot 0 none .between).f.bind (·.index)) ≠ some 96) ∧
    (((atSlot 63 none .between).pair + 1) % 64 = 0 ∧ ((atSlot 3 none .between).pair + 1) % 64 ≠ 0 ∧
      (atSlot 3 none .between).pair < 4 ∧ { atSlot 0 none .between with f := none }.f = none) := by decide +kernel

theorem witness_stream_characters :
    (∀ c ∈ [some 99, some 101, some 102, some 103, some 104, some 98, some 100, some 97, some 105],
      decides (atSlot 4 c .between) c) ∧
    (∀ type ∈ [FrameType.alert, .relay, .dack, .dcancel], type.index ∈ [101, 102, 103, 104]) ∧
    (∀ n ∈ [5, 6, 7], ∀ c ∈ [some 98, some 99, some 100, none],
      decides (atSlot 4 c (.bulletin 1 16 (List.replicate n none))) c) ∧
    (∀ type ∈ [FrameType.alert, .relay, .dack, .dcancel], ∀ n ∈ [type.fields - 2, type.fields - 1],
      decides (atSlot 4 (some 16) (.distress type 1 16 (List.replicate n none))) (some 16)) ∧
    (decides { atSlot 4 none .between with erasureRun := 31 } none ∧
      decides { atSlot 4 none (.bulletin 8 16 (List.replicate 7 none)) with erasureRun := 31 } none ∧
      decides { atSlot 4 (some 98) .between with idleRun := 3 } (some 98)) := by
  unfold decides
  decide +kernel

/-- A copy of an index. -/
def copyOf (index : Nat) : Copy := { index := some index, conf := 63 }

/-- A stream after its 64th pair, its marker search one slot short of its end; the slot being read completes the codeword
of `last`. -/
def atMarker (s a b : Copy) (last missedRun : Nat) : Stream :=
  { atSlot 64 none .between with
    f := none, marker := some { f := copyOf 0, s := s, slots := [a, b] }, missedRun := missedRun, erasureRun := 29,
    idleRun := 1, part := symsOf 0 ((codeword last).take 8) }

theorem witness_markers :
    (∀ x ∈ [atMarker (copyOf 0) (copyOf 96) (copyOf 97) 0 0, atMarker (copyOf 96) (copyOf 97) (copyOf 0) 0 0,
        atMarker (copyOf 0) (copyOf 0) (copyOf 96) 97 0, atMarker (copyOf 0) (copyOf 0) (copyOf 0) 0 0,
        atMarker (copyOf 0) (copyOf 0) (copyOf 0) 0 1],
      x.part.length = 8 ∧ x.phasing = none ∧ x.f = none ∧ x.frame = .between ∧ x.delay ≠ [] ∧ x.pair % 64 = 0 ∧
      64 ≤ x.pair ∧ x.erasureRun < 30 ∧ x.idleRun < 2 ∧ x.marker.isSome = true) ∧
    (readCopy ((atMarker (copyOf 0) (copyOf 0) (copyOf 96) 97 0).part ++
      [{ bit := (codeword 97).getD 8 false, conf := 7, time := 1000 }])).index = some 97 ∧
    (∀ slots ∈ [[], [copyOf 0]],
      ({ f := copyOf 0, s := copyOf 0, slots := slots } : MarkerSearch).slots.length < 2) := by
  decide +kernel

theorem witness_phasing_pairs :
    ∀ sync ∈ [SyncState.hunting, .linked],
      let s := hearing sync phasing71
      s.resetLow = false ∧ s.enc.inFlight = none ∧ s.dec.sync ≠ .spreadSync ∧ 71 ≤ s.dec.window.length ∧
      ((s.dec.window.drop (s.dec.window.length - 71)).map (·.bit)) ++ [(codeword 97).getD 8 false] =
        (List.replicate 4 (codeword 96 ++ codeword 97)).flatten := by decide +kernel

theorem witness_strobe_gap :
    (∀ sync ∈ [SyncState.hunting, .linked, .spreadSync],
      let s := hearing sync []
      s.resetLow = false ∧ s.enc.inFlight = none ∧ s.dec.gapSeen = false ∧ s.dec.strobeRef + 100 ≤ s.now ∧
      s.dec.sync = sync) ∧
    (let s : State := { fresh 1500 with dec := { (fresh 1500).dec with lastBlock := some 0 } }
     s.resetLow = false ∧ s.dec.lastBlock = some 0 ∧ 0 + 1500 ≤ s.now) := by decide +kernel

theorem witness_net_monitor_timers :
    ((up 4000).resetLow = false ∧ (up 4000).nm.clear = false ∧ (up 4000).nm.clearStart = some 0 ∧ 0 + 4000 ≤ (up 4000).now ∧
      (up 4000).link.phase ≠ .clearing) ∧
    ({ up 4000 with link := { (up 4000).link with phase := .clearing } }.link.phase = .clearing) ∧
    (let s : State := { up 1930 with nm := { (up 0).nm with half := some ⟨true, 0, 54321, 0⟩ } }
     ∃ h, s.nm.half = some h ∧ h.start + 1200 + 730 ≤ s.now) ∧
    (let s : State := { up 120000 with nm := { (up 0).nm with overheard := some ⟨0, 54321, 12345, 54321, true, 0, none, none⟩ } }
     ∃ o, s.nm.overheard = some o ∧ o.lastValid + 120000 ≤ s.now) ∧
    (∀ st ∈ [StationState.calling, .inSession],
      let s : State := { up 120000 with nm := { (up 0).nm with table := [stationOf st] } }
      s.station 54321 = some (stationOf st) ∧ ((stationOf st).state = .calling ∨ (stationOf st).state = .inSession) ∧
      (stationOf st).pins.peer = false ∧ (stationOf st).stateTime + 120000 ≤ s.now) := by
  refine ⟨by decide +kernel, by decide +kernel, ⟨_, rfl, by decide⟩, ⟨_, rfl, by decide⟩, by decide +kernel⟩

/-- A table of 24 stations, the first least recently heard. -/
def fullTable : List Station :=
  (List.range 24).map fun i => { stationOf .quiet with call := 20000 + i, lastHeard := some i }

theorem witness_recorded_calls :
    (∀ call ∈ [9999, 100000, 12345],
      ¬ (10000 ≤ call ∧ call ≤ 99999 ∧ (up 0).cfg.ownCall ≠ some call)) ∧
    (∀ call ∈ [10000, 99999], 10000 ≤ call ∧ call ≤ 99999 ∧ (up 0).cfg.ownCall ≠ some call ∧
      (up 0).station call = none ∧ (up 0).nm.table.length < 24) ∧
    (let s : State := { up 0 with nm := { (up 0).nm with table := fullTable } }
     s.station 20000 ≠ none ∧ s.station 10000 = none ∧ 24 ≤ s.nm.table.length ∧
     ∃ old ∈ s.nm.table, old.pinned = false ∧
       ∀ e ∈ s.nm.table, e.pinned = false → e ≠ old → old.lessRecent e = true) := by
  refine ⟨by decide +kernel, by decide +kernel, by decide +kernel, by decide +kernel, by decide +kernel,
    _, List.mem_cons_self .., rfl, by decide +kernel⟩

/-- A part that has heard CALL-A of a class for `called`, and all of CALL-B of `caller`, announcing 9, but its last
symbol. -/
def callHeard (caller called cls : Nat) : State :=
  let s := up 1920
  { s with
    dec := { s.dec with
      window := (symsOf 1200 ((blockSlots ([106, 25] ++ digitIndexes 5 caller)).map codeword).flatten).dropLast },
    nm := { s.nm with half := some { isA := true, digit := cls, call := called, start := 0 } } }

/-- The last symbol of that CALL-B. -/
def lastBit (caller : Nat) : Bool :=
  (((blockSlots ([106, 25] ++ digitIndexes 5 caller)).map codeword).flatten.getLast?).getD false

theorem witness_call_pairs :
    (∀ caller ∈ [54321, 9999], ∀ cls ∈ [0, 3], (callHeard caller 43210 cls).completesPair (lastBit caller) 7 caller 43210 cls 9) ∧
    ((up 0).callValid 54321 = true ∧ (up 0).callValid 9999 = false ∧ (up 0).callValid 43210 = true ∧
      (callHeard 54321 43210 3).nm.table.length + 2 ≤ 24 ∧ (up 0).cfg.ownCall ≠ some 43210) ∧
    (let s := callHeard 54321 43210 3
     let t : State := { s with nm := { s.nm with
       table := [stationOf .quiet, { stationOf .distress with call := 43210 }] ++ fullTable.drop 2 } }
     t.station 54321 ≠ none ∧ t.station 43210 ≠ none ∧ t.nm.table.length = 24) := by
  refine ⟨?_, by decide +kernel, by decide +kernel⟩
  intro caller h cls h'
  refine ⟨{ kind := .callB, digit := 9, payload := digitIndexes 5 caller }, 1200,
    { isA := true, digit := cls, call := 43210, start := 0 }, ?_, rfl, ?_⟩
  · unfold State.completesBlock
    revert caller cls; decide +kernel
  · revert caller cls; decide +kernel

/-- An overheard link of 54321 and 43210, an OVER read in its long slot. -/
def linkHeard : Overheard :=
  { align := 0, caller := 54321, called := 43210, sender := 54321, inSession := true, lastValid := 0,
    lastLong := some (.over, 1200), swapAt := none }

theorem witness_overheard_link :
    (let s : State := { up 2000 with nm := { (up 0).nm with
                table := [stationOf .calling, { stationOf .calling with call := 43210 }], overheard := some linkHeard } }
     s.nm.overheard = some linkHeard ∧ (s.station 54321).isSome = true ∧ (s.station 43210).isSome = true) ∧
    (∀ turn ∈ [2000, 2001], let o := { linkHeard with swapAt := some turn }
     ∃ u, o.swapAt = some u ∧ (u ≤ (up 2000).now ↔ turn = 2000) ∧ o.sender = o.caller) ∧
    (sameAlign 1200 linkHeard.align = true ∧ linkHeard.sender = linkHeard.caller ∧
      BlockType.data ≠ .callA ∧ BlockType.brk ≠ .callB ∧ (stationOf .calling).pins.peer = false) ∧
    (∀ k ∈ [BlockType.over, .close], ∃ u, { linkHeard with lastLong := some (k, 1200) }.lastLong = some (k, u) ∧
      nearly u 1200 = true) := by
  refine ⟨by decide +kernel, ?_, by decide +kernel, fun k _ => ⟨_, rfl, by decide⟩⟩
  intro turn h
  exact ⟨turn, rfl, by revert turn; decide +kernel, rfl⟩

/-- A part with each accumulator at an end of its range and a frame of one character. -/
def qualities : State :=
  { up 0 with
    dec := { (up 0).dec with acc := some 4096, stream := { Stream.empty with frame := .bulletin 1 16 [] } },
    nm := { (up 0).nm with table := [{ stationOf .quiet with q := 15 }] } }

theorem witness_quality_invariant : qualities.qualityRight ∧ ∃ t, step qualities = .next t := by
  refine ⟨⟨⟨by decide, by decide⟩, ?_, ?_⟩, _, rfl⟩
  · intro q h; cases h; exact ⟨by decide, by decide⟩
  · intro e h
    cases List.mem_singleton.mp h
    exact ⟨by decide, by decide⟩

/-- A part with frames waiting. -/
def waitingFrames (burst frame : Option FrameReq) (busy : Bool) : State :=
  { up 1000 with enc := { (up 0).enc with burst := burst, frame := frame }, nm := { (up 0).nm with busy := busy } }

theorem witness_waiting_frames :
    (∀ busy : Bool, let s := waitingFrames (some (frameOf .burst)) (some (frameOf .relay)) busy
      s.resetLow = false ∧ s.enc.inFlight = none ∧ s.lines.txinh.asserted = false ∧
      s.enc.burst = some (frameOf .burst)) ∧
    (∀ busy : Bool, let s := waitingFrames none (some (frameOf .relay)) busy
      s.resetLow = false ∧ s.enc.inFlight = none ∧ s.lines.txinh.asserted = false ∧ s.enc.burst = none ∧
      s.enc.frame = some (frameOf .relay) ∧ s.nm.busy = busy) := by decide +kernel

/-- A LINK request of a class at slot start 1200. -/
def linkOf (kind : LinkKind) (cls : Nat) : LinkReq :=
  { kind := kind, chars := [107, 16, 0, 0, 0, 0, 0], slotStart := 1200, cls := cls, closing := false }

/-- A part whose LINK request stands at its slot start. -/
def linkWaiting (r : LinkReq) (txinh : Bool) (lastSilence : Option Nat) : State :=
  let s := inPhase 1200 .sending (sessionOf r.cls true)
  { s with enc := { s.enc with link := some r }, lines := { s.lines with txinh := .powerOn txinh },
           dis := { s.dis with lastSilence := lastSilence } }

theorem witness_link_request :
    (∀ s ∈ [linkWaiting (linkOf .block 0) false none, linkWaiting (linkOf .block 3) false (some 0),
        linkWaiting (linkOf .reply 0) false (some 0), linkWaiting (linkOf .block 0) true none],
      s.resetLow = false ∧ s.enc.inFlight = none ∧ s.enc.burst = none ∧ s.enc.frame = none ∧
      (∃ r, s.enc.link = some r ∧ r.slotStart ≤ s.now ∧ r.closing = false) ∧ ∃ x, s.link.session = some x) ∧
    ((linkWaiting (linkOf .block 0) false none).lines.txinh.asserted = false ∧
      (linkWaiting (linkOf .block 0) false none).silence = false) ∧
    ((linkWaiting (linkOf .block 3) false (some 0)).silence = true ∧
      (linkWaiting (linkOf .block 3) false (some 0)).lines.txinh.asserted = false ∧ (linkOf .block 3).cls = 3) ∧
    ((linkWaiting (linkOf .reply 0) false (some 0)).silence = true ∧ (linkOf .reply 0).cls ≠ 3) ∧
    (linkWaiting (linkOf .block 0) true none).lines.txinh.asserted = true ∧
    (let r := { linkOf .block 0 with closing := true }
     r.closing = true ∧ (linkWaiting r true none).lines.txinh.asserted = true ∧
     (linkWaiting r false (some 0)).silence = true ∧ (linkWaiting r false (some 0)).enc.link = some r) := by
  refine ⟨?_, by decide +kernel, by decide +kernel, by decide +kernel, by decide +kernel, by decide +kernel⟩
  simp only [List.forall_mem_cons, List.not_mem_nil, false_implies, implies_true, and_true]
  refine ⟨⟨rfl, rfl, rfl, rfl, ⟨_, rfl, by decide, rfl⟩, _, rfl⟩, ⟨rfl, rfl, rfl, rfl, ⟨_, rfl, by decide, rfl⟩, _, rfl⟩,
    ⟨rfl, rfl, rfl, rfl, ⟨_, rfl, by decide, rfl⟩, _, rfl⟩, rfl, rfl, rfl, rfl, ⟨_, rfl, by decide, rfl⟩, _, rfl⟩

theorem witness_transmission_ends :
    (∀ kind ∈ [FrameKind.burst, .relay, .dcancel], ∀ own ∈ [OwnState.alerting, .cancelPending, .cancelling],
      ∀ n ∈ [0, 1, 2],
      let x : Transmission := { item := .frame (frameOf kind), slots := (frameOf kind).slots, start := 0 }
      let d := sending 8460 x
      let s : State := { d with dis := { d.dis with own := own, cancelCount := n } }
      s.resetLow = false ∧ s.enc.inFlight = some x ∧ x.start + 90 * x.slots.length ≤ s.now ∧
      x.item = .frame (frameOf kind) ∧ (frameOf kind).kind = kind ∧ s.cfg.ownCall = some 12345 ∧ s.dis.own = own ∧
      s.dis.prevAck = false ∧ s.dis.cancelCount = n) ∧
    (∀ phase ∈ [Phase.sending, .ending], ∀ cls ∈ [0, 3], ∀ kind ∈ [LinkKind.block, .callHalf, .reply],
     let x : Transmission := { item := .link (linkOf kind cls), slots := (linkOf kind cls).slots, start := 0 }
     let s := { inPhase 720 phase (sessionOf cls true) with enc := { (up 0).enc with inFlight := some x } }
     s.resetLow = false ∧ s.enc.inFlight = some x ∧ x.start + 90 * x.slots.length ≤ s.now ∧
     x.item = .link (linkOf kind cls) ∧ s.link.session = some (sessionOf cls true) ∧ (sessionOf cls true).cls = cls ∧
     s.link.phase.running = true ∧ (linkOf kind cls).closing = false ∧ (linkOf kind cls).kind = kind) := by
  decide +kernel

/-- A part in IDLE, a record for 54321 waiting, the channel clear or not. -/
def waitingRecord (clear : Bool) : State :=
  { up 5000 with q := { (up 0).q with out := [outOf 0 .queued] }, nm := { (up 0).nm with clear := clear } }

theorem witness_consideration :
    ((up 5000).resetLow = false ∧ (up 5000).link.phase = .idle ∧ (up 5000).port.window = none ∧
      (up 5000).link.considerAt ≤ (up 5000).now ∧ (up 5000).q.out = []) ∧
    (∀ clear : Bool, let s := waitingRecord clear
      s.resetLow = false ∧ s.link.phase = .idle ∧ s.port.window = none ∧ s.link.considerAt ≤ s.now ∧
      (s.q.out.find? fun r => r.state = .queued && r.nextEligible ≤ s.now && s.passes r.dest r.cls) =
        some (outOf 0 .queued) ∧ s.nm.clear = clear) := by decide +kernel

/-- A part at the end of a backoff of 15 slots. -/
def backoffAt (out : List OutRec) : State :=
  { up 18000 with
    q := { (up 0).q with out := out },
    link := { (up 0).link with
      phase := .backoff, backoffStart := 0, backoffCount := 15,
      attempt := some { dest := 54321, opening := 1, cls := 0 } } }

/-- The same part under silence. -/
def backoffSilent : State :=
  let s := backoffAt []
  { s with dis := { s.dis with lastSilence := some 0 } }

theorem witness_backoff :
    (let s := backoffAt [outOf 0 .queued]
     s.resetLow = false ∧ s.link.phase = .backoff ∧
     s.link.attempt = some { dest := 54321, opening := 1, cls := 0 } ∧ s.enc.link = none ∧
     s.link.backoffStart + 1200 * s.link.backoffCount ≤ s.now ∧ s.passes 54321 0 = true ∧
     ∃ r ∈ s.q.out, r.dest = 54321 ∧ r.eligible s.now = true) ∧
    (backoffSilent.resetLow = false ∧ backoffSilent.link.phase = .backoff ∧
      backoffSilent.link.attempt = some { dest := 54321, opening := 1, cls := 0 } ∧
      backoffSilent.link.backoffStart + 1200 * backoffSilent.link.backoffCount ≤ backoffSilent.now ∧
      backoffSilent.passes 54321 0 = false ∧ backoffSilent.openingRecord = none) := by decide +kernel

theorem witness_calling_cycles :
    ∀ n ∈ [0, 1, 7, 8],
      let x := { sessionOf 0 true with callCycle := n }
      let s := inPhase 1200 .calling x
      s.resetLow = false ∧ s.link.phase = .calling ∧ s.link.session = some x ∧ x.boundary + 1200 ≤ s.now ∧
      x.next = none ∧ s.link.counts.failed < 32 ∧ x.fullClose = false ∧ s.enc.link = none ∧ x.callCycle = n ∧
      s.link.pendingBreak = none ∧ s.cfg.ownCall = some 12345 := by decide +kernel

/-- A record of each class, number and state of its delay, for the session's peer or another, when a session ends. -/
theorem witness_session_ends :
    (∀ caller accepted : Bool,
      let x := { sessionOf 0 caller with accepted := accepted }
      let s := inPhase 1200 .sending x
      let t : State := { s with q := { s.q with out := (List.range 4).map fun i => { outOf i .queued with ref := i } } }
      t.link.session = some x ∧ (t.q.out.map (·.ref)).Nodup ∧ t.q.out.length = 4 ∧ x.caller = caller ∧
      x.accepted = accepted) ∧
    (∀ cls ∈ [0, 1, 2, 3], ∀ n ∈ [3, 4, 255], ∀ st ∈ [OutState.queued, .active],
      let o := { outOf cls st with attempts := n }
      o.dest = (sessionOf 0 true).peer ∧ o.state ≠ .intake ∧ o.nextEligible ≤ 1200 ∧ o.cls = cls ∧
      (4 ≤ o.attempts ↔ n ≠ 3)) ∧
    (outOf 0 .intake).state = .intake ∧ ¬ ({ outOf 0 .queued with nextEligible := 1201 }.nextEligible ≤ 1200) := by
  decide +kernel

/-- A session at its boundary with a break pending, a number of cycles failed and three CLOSEs sent. -/
def breakPending (phase : Phase) (failed : Nat) : State :=
  let s := inPhase 1200 phase { sessionOf 0 true with callCycle := 7, empties := 7 }
  { s with link := { s.link with
    pendingBreak := some .window, counts := { s.link.counts with failed := failed, closes := 3 } } }

theorem witness_boundary :
    ∀ phase ∈ [Phase.calling, .answering, .sending, .receiving, .ending], ∀ failed ∈ [31, 32],
      let x : Session := { sessionOf 0 true with callCycle := 7, empties := 7 }
      let s := breakPending phase failed
      s.resetLow = false ∧ s.link.phase.running = true ∧ s.link.session = some x ∧ x.boundary + 1200 ≤ s.now ∧
      s.link.phase = phase ∧ x.next = none ∧ s.link.counts.failed = failed ∧ x.fullClose = false ∧ x.breaking = none ∧
      s.enc.link = none ∧ s.link.pendingBreak = some .window ∧ s.cfg.ownCall = some 12345 ∧
      s.link.counts.closes < 4 ∧ x.callCycle < 8 ∧ x.empties < 8 := by decide +kernel

/-- A part whose slots have been heard. -/
def slotHeard (n : Nat) (phase : Phase) (x : Session) (syms : List Sym) : State :=
  let s := inPhase n phase x
  { s with dec := { s.dec with slotSyms := syms } }

/-- A DATA block of sequence 7 in the long slot. -/
def dataSeven : List Sym := symsOf 100 ((blockSlots [107, 23, 0, 0, 0, 0, 0]).map codeword).flatten

theorem witness_receiver :
    (let x := sessionOf 0 false
     let s := slotHeard 720 .receiving x []
     s.resetLow = false ∧ s.link.phase = .receiving ∧ s.link.session = some x ∧ x.longRead = false ∧
     x.breaking = none ∧ x.boundary + 720 ≤ s.now ∧ s.cfg.ownCall = some 12345 ∧ s.readLong x = none) ∧
    (let x := { sessionOf 0 false with held := some { kind := .accept, value := 23 } }
     let s := slotHeard 720 .receiving x dataSeven
     s.link.session = some x ∧ s.readLong x = some { kind := .data, digit := 7, payload := [0, 0, 0, 0, 0] } ∧
     x.expected < 8 ∧ 7 = (x.expected + 7) % 8 ∧ x.held = some { kind := .accept, value := 23 }) := by decide +kernel

/-- A block of sequence 0 in the long slot of a receiver, its record, store and list as given. -/
def blockHeard (kind : BlockType) (payload : List Nat) (inc : List IncRec) (store : TextStore) : State :=
  let s := slotHeard 720 .receiving (sessionOf 0 false)
    (symsOf 100 ((blockSlots ([kind.index, 16] ++ payload)).map codeword).flatten)
  { s with q := { s.q with inc := inc }, store := store }

/-- A store whose record 1 holds 252 characters in one page, the other pages of its class taken or not. -/
def incomingStore (full : Bool) : TextStore :=
  { TextStore.powerOn with chains :=
    [{ key := .inc 1, cls := .incoming, distress := false, charges := [false], text := List.replicate 252 65 },
      { key := .inc 2, cls := .incoming, distress := false, text := [],
        charges := List.replicate (if full then 127 else 126) false }] }

theorem witness_receiver_blocks :
    (∀ inc ∈ [[], (List.range 16).map fun i => { incOf .complete with ref := i + 1 }],
      let s := blockHeard .msgBegin [25, 25, 19, 98, 98] inc TextStore.powerOn
      s.readLong (sessionOf 0 false) = some { kind := .msgBegin, digit := 0, payload := digitIndexes 2 99 ++ [16 + 3, 98, 98] } ∧
      (∀ o ∈ s.q.inc, o.state ≠ .receiving) ∧ (sessionOf 0 false).expected = 0 ∧
      ∀ o ∈ s.q.inc, ¬ (o.state = .partly ∧ o.origin = 54321 ∧ o.number = some 99)) ∧
    (∀ full : Bool, ∀ payload ∈ [[1, 1, 1, 1, 98], [1, 1, 1, 1, 1]],
      let s := blockHeard .data payload [incOf .receiving] (incomingStore full)
      s.resetLow = false ∧ s.link.phase = .receiving ∧ s.link.session = some (sessionOf 0 false) ∧ s.enc.link = none ∧
      s.readLong (sessionOf 0 false) = some { kind := .data, digit := 0, payload := payload } ∧
      s.openInc = some (incOf .receiving) ∧ s.store.pagesOf (.inc 1) = 1 ∧ (s.store.textOf (.inc 1)).length = 252 ∧
      s.store.grants .incoming (s.store.mark (.inc 1) false) 1 = !full) ∧
    (let s := blockHeard .msgEnd [98, 98, 98, 98, 98] [incOf .receiving] (incomingStore false)
     s.readLong (sessionOf 0 false) = some { kind := .msgEnd, digit := 0, payload := [98, 98, 98, 98, 98] } ∧
     s.openInc = some (incOf .receiving)) := by decide +kernel

/-- What the other blocks of a receiver's long slot find: a call half, a BREAK, a block of another sequence, a RESUME with
or without its record, an OVER with or without one to send, a CLOSE. -/
theorem witness_receiver_other_blocks :
    (∀ kind ∈ [BlockType.callA, .callB, .brk, .over, .close], ∀ out ∈ [[], [outOf 0 .queued], [outOf 3 .queued]],
      let s := blockHeard kind [98, 98, 98, 98, 98] [] TextStore.powerOn
      let t : State := { s with q := { s.q with out := out } }
      t.resetLow = false ∧ t.link.phase = .receiving ∧ t.link.session = some (sessionOf 0 false) ∧
      t.cfg.ownCall = some 12345 ∧ t.enc.link = none ∧ t.restricted = false ∧ (sessionOf 0 false).held = none ∧
      t.readLong (sessionOf 0 false) = some { kind := kind, digit := 0, payload := [98, 98, 98, 98, 98] }) ∧
    ((outOf 0 .queued).dest = (sessionOf 0 false).peer ∧ (outOf 3 .queued).cls = 3 ∧ (sessionOf 0 false).cls ≠ 3) ∧
    (∀ expected ∈ [0, 1], ∀ held ∈ [none, some rReady],
      let x := { sessionOf 0 false with expected := expected, held := held }
      let s := slotHeard 720 .receiving x dataSeven
      s.readLong x = some { kind := .data, digit := 7, payload := [0, 0, 0, 0, 0] } ∧ 7 ≠ x.expected ∧
      (expected = 0 ↔ 7 = (x.expected + 7) % 8)) ∧
    (∀ blocks ∈ [1, 2],
      let s := blockHeard .resume (digitIndexes 2 1 ++ digitIndexes 3 1) [{ incOf .partly with blocks := blocks }]
        TextStore.powerOn
      s.readLong (sessionOf 0 false) =
        some { kind := .resume, digit := 0, payload := digitIndexes 2 1 ++ digitIndexes 3 1 } ∧
      ((s.resumeMatch 54321 1 1).isSome = true ↔ blocks = 1) ∧ ∀ r ∈ s.q.inc, r.state ≠ .receiving) := by
  decide +kernel

theorem witness_answering :
    (∀ cls ∈ [0, 3], (callHeard 54321 12345 cls).completesPair (lastBit 54321) 7 54321 12345 cls 9) ∧
    (let s := callHeard 54321 12345 0
     s.cfg.ownCall = some 12345 ∧ s.callValid 54321 = true ∧ s.cfg.portOffice ≠ some 54321 ∧ s.port.window = none ∧
     s.restricted = false ∧ s.link.phase = .idle ∧ s.enc.link = none ∧ s.nm.table.length < 24 ∧
     s.nm.half = some { isA := true, digit := 0, call := 12345, start := 0 } ∧
     (s.windowWith (lastBit 54321) 7).head?.map (·.time) = some 1200) ∧
    (let s := callHeard 54321 12345 3
     let t : State := { s with dis := { s.dis with lastSilence := some 0 } }
     t.restricted = true ∧ t.enc.link = none) ∧
    (let s := callHeard 54321 12345 0
     let t : State := { s with cfg := { s.cfg with portOffice := some 54321, threshold := 50 },
                               nm := { s.nm with table := [stationOf .quiet] } }
     ∃ e, t.station 54321 = some e ∧ t.cfg.threshold ≤ percentOf e.q) := by
  refine ⟨?_, by decide +kernel, by decide +kernel, _, rfl, by decide +kernel⟩
  intro cls h
  refine ⟨{ kind := .callB, digit := 9, payload := digitIndexes 5 54321 }, 1200,
    { isA := true, digit := cls, call := 12345, start := 0 }, ?_, rfl, ?_⟩
  · unfold State.completesBlock
    revert cls; decide +kernel
  · revert cls; decide +kernel

/-- A sender's session with a DATA block sent and its long slot past. -/
def senderSession : Session :=
  { sessionOf 0 true with longRead := true, blockSent := true, block := some { kind := .data 1 1, seq := 7 } }

/-- A reply in the short slot. -/
def replySyms (r : Reply) : List Sym := symsOf 900 (r.chars.map codeword).flatten

theorem witness_sender :
    (∀ syms ∈ [[], replySyms { kind := .accept, value := 23 }, replySyms { kind := .brk, value := 36 }],
      let s := slotHeard 1050 .sending senderSession syms
      s.resetLow = false ∧ s.link.phase = .sending ∧ s.link.session = some senderSession ∧
      senderSession.shortRead = false ∧ senderSession.boundary + 1050 ≤ s.now ∧ senderSession.turnTaking = false ∧
      senderSession.breaking = none ∧ senderSession.fullClose = false) ∧
    (let x := { senderSession with block := some { kind := .close, seq := 7 }, sampled := true }
     let s := slotHeard 1050 .ending x (replySyms { kind := .accept, value := 23 })
     let t : State := { s with dec := { s.dec with acc := some 15 }, nm := { s.nm with table := [stationOf .inSession] } }
     t.resetLow = false ∧ t.link.phase = .ending ∧ t.link.session = some x ∧ x.sampled = true ∧
     t.readShort x = some { kind := .accept, value := 23 } ∧ t.dec.acc = some 15 ∧
     t.station 54321 = some (stationOf .inSession)) ∧
    (slotHeard 1050 .sending senderSession []).readShort senderSession = none ∧
    (slotHeard 1050 .sending senderSession (replySyms { kind := .accept, value := 23 })).readShort senderSession =
      some { kind := .accept, value := 23 } ∧
    (slotHeard 1050 .sending senderSession (replySyms { kind := .brk, value := 36 })).readShort senderSession =
      some { kind := .brk, value := 36 } := by decide +kernel

/-- A sender whose block in flight has been answered. -/
def answered (kind : SendKind) (r : Reply) (out : List OutRec) : State :=
  let s := slotHeard 1050 .sending { senderSession with block := some { kind := kind, seq := 7 } } (replySyms r)
  { s with q := { s.q with out := out } }

/-- The short slot of a CALLING cycle, the eighth too: R-READY, R-BREAK, another reply, nothing. -/
theorem witness_calling_short :
    ∀ r ∈ [some rReady, some { kind := .brk, value := 36 }, some (replyOf .request 0), none], ∀ cycle ∈ [1, 8],
      let x := { sessionOf 0 true with longRead := true, callCycle := cycle }
      let s := slotHeard 1050 .calling x ((r.map replySyms).getD [])
      s.resetLow = false ∧ s.link.phase = .calling ∧ s.link.session = some x ∧ x.longRead = true ∧
      x.shortRead = false ∧ x.boundary + 1050 ≤ s.now ∧ s.readShort x = r := by decide +kernel

/-- A block of a kind heard in the long slot of a phase. -/
def longHeard (phase : Phase) (x : Session) (kind : Option BlockType) : State :=
  slotHeard 720 phase x
    ((kind.map fun k => symsOf 100 ((blockSlots [k.index, 16, 98, 98, 98, 98, 98]).map codeword).flatten).getD [])

/-- ANSWERING: the blocks of its long slot, and its boundaries before and after eight empty cycles. -/
theorem witness_answering_slots :
    (∀ kind ∈ [none, some BlockType.callA, some .callB, some .brk, some .msgBegin, some .close],
      let x := sessionOf 0 false
      let s := longHeard .answering x kind
      s.resetLow = false ∧ s.link.phase = .answering ∧ s.link.session = some x ∧ s.cfg.ownCall = some 12345 ∧
      s.enc.link = none ∧ x.longRead = false ∧ x.breaking = none ∧ x.boundary + 720 ≤ s.now ∧
      (s.readLong x).map (·.kind) = kind) ∧
    (∀ empties ∈ [7, 8],
      let x := { sessionOf 0 false with empties := empties }
      let s := inPhase 1200 .answering x
      s.link.session = some x ∧ x.boundary + 1200 ≤ s.now ∧ s.link.counts.failed < 32 ∧ x.fullClose = false ∧
      x.next = none ∧ s.link.pendingBreak = none) := by decide +kernel

/-- Turn-taking: what both slots hold, and the boundaries around the phase. -/
theorem witness_turn_taking :
    (∀ kind ∈ [none, some BlockType.over, some .brk, some .callA],
      let x := { sessionOf 0 false with turnTaking := true }
      let s := longHeard .sending x kind
      s.resetLow = false ∧ s.link.phase = .sending ∧ s.link.session = some x ∧ x.turnTaking = true ∧
      x.breaking = none ∧ s.cfg.ownCall = some 12345 ∧ s.enc.link = none ∧ x.longRead = false ∧
      x.boundary + 720 ≤ s.now ∧ (s.readLong x).map (·.kind) = kind) ∧
    (∀ r ∈ [none, some (replyOf .request 0), some { kind := .brk, value := 36 }, some (replyOf .request 7),
        some (replyOf .accept 0)], ∀ heard : Bool,
      let x := { sessionOf 0 false with turnTaking := true, longRead := true, overRead := heard }
      let s := slotHeard 1050 .sending x ((r.map replySyms).getD [])
      s.link.session = some x ∧ x.shortRead = false ∧ x.boundary + 1050 ≤ s.now ∧ s.readShort x = r ∧
      (replyOf .request 0).value = 16 ∧ (replyOf .request 7).value ≠ 16) ∧
    (∀ p ∈ [(Phase.receiving, some NextPhase.turnTaking, false), (.sending, none, true), (.sending, some .sending, true),
        (.calling, some .sending, false)],
      let x := { sessionOf 0 false with turnTaking := p.2.2, next := p.2.1, callCycle := 8 }
      let s := inPhase 1200 p.1 x
      s.resetLow = false ∧ s.link.phase = p.1 ∧ s.link.session = some x ∧ x.boundary + 1200 ≤ s.now ∧
      s.link.counts.failed < 32 ∧ s.link.pendingBreak = none ∧ s.enc.link = none ∧ x.fullClose = false ∧
      x.peerFull = false ∧ s.cfg.ownCall = some 12345) := by decide +kernel

/-- A message boundary: nothing to send, a record from its start, and one from a later block. -/
theorem witness_message_boundary :
    ∀ out ∈ [[], [outOf 0 .queued], [{ outOf 0 .queued with offset := 999 }]],
      let x := { sessionOf 0 true with nextSeq := 7 }
      let s : State := { inPhase 1200 .sending x with q := { (up 0).q with out := out } }
      s.resetLow = false ∧ s.link.session = some x ∧ s.link.phase = .sending ∧ x.block = none ∧ x.due = none ∧
      x.next = none ∧ x.turnTaking = false ∧ s.restricted = false ∧
      (s.q.out.find? fun o =>
        decide (o.state = .queued ∧ o.dest = x.peer ∧ (s.restricted = false ∨ o.cls = 3))) = out.head? ∧
      ∀ o ∈ out, s.outRec o.ref = some o := by decide +kernel

/-- The replies that leave the block in flight standing. -/
theorem witness_other_replies :
    ∀ phase ∈ [Phase.sending, .ending],
      ∀ r ∈ [replyOf .request 7, rReady, replyOf .hold 6, replyOf .accept 6, { kind := .accept, value := 52 },
        { kind := .restart, value := 16 }],
      let s := slotHeard 1050 phase senderSession (replySyms r)
      s.resetLow = false ∧ s.link.phase = phase ∧ s.link.session = some senderSession ∧
      senderSession.blockSent = true ∧ senderSession.block = some { kind := .data 1 1, seq := 7 } ∧
      s.readShort senderSession = some r ∧ (replyOf .hold 6).value ≠ 16 + 7 ∧ (replyOf .accept 6).value ≠ 16 + 7 := by
  decide +kernel

/-- The replies to a MSG-END, a RESUME, an OVER, and R-HOLD. -/
theorem witness_sender_replies :
    (∀ k ∈ [SendKind.msgEnd 1, .resume 1, .over, .data 1 1],
      ∀ r ∈ [replyOf .accept 7, replyOf .hold 7, { kind := .restart, value := 16 }, { kind := .accept, value := 52 }],
      let x := { senderSession with block := some { kind := k, seq := 7 } }
      let s := answered k r []
      s.resetLow = false ∧ s.link.phase = .sending ∧ s.link.session = some x ∧ s.readShort x = some r ∧
      x.blockSent = true ∧ x.longRead = true ∧ x.breaking = none) ∧
    ((replyOf .accept 7).value = 16 + 7 ∧ (replyOf .hold 7).kind = .hold ∧ (7 : Nat) < 8) ∧
    (∀ cls ∈ [0, 1, 2, 3], ∀ k ∈ [SendKind.msgEnd 1, .msgBegin 1, .resume 1, .data 1 1],
      (answered k (replyOf .accept 7) [outOf cls .active]).outRec 1 = some (outOf cls .active)) ∧
    { outOf 1 .active with serial := some 3 }.serial = some 3 := by decide +kernel

/-- A sender at its boundary: a block in flight, one due, the session given up, or OVER answered "T". -/
theorem witness_sender_boundary :
    (∀ phase ∈ [Phase.sending, .ending],
      ∀ x ∈ [{ sessionOf 0 true with block := some { kind := .data 1 1, seq := 7 } },
        { sessionOf 0 true with due := some .close, nextSeq := 7 }],
      let s := inPhase 1200 phase x
      s.resetLow = false ∧ s.link.session = some x ∧ s.link.phase = phase ∧ x.peerFull = false ∧
      s.link.counts.closes < 4 ∧ x.boundary + 1200 ≤ s.now ∧ s.link.counts.failed < 32 ∧ s.link.pendingBreak = none ∧
      s.cfg.ownCall = some 12345 ∧ s.enc.link = none ∧ x.turnTaking = false ∧ x.fullClose = false ∧ x.next = none ∧
      (x.block.isSome = true ∨ x.due = some .close)) ∧
    (∀ full : Bool,
      let x := { sessionOf 0 true with block := some { kind := .data 1 1, seq := 7 }, peerFull := true, fullClose := full }
      let s := inPhase 1200 .sending x
      s.link.session = some x ∧ x.block = some { kind := .data 1 1, seq := 7 } ∧ x.peerFull = true ∧ x.fullClose = full) ∧
    (let x := { sessionOf 0 true with next := some .receiving }
     (inPhase 1200 .sending x).link.session = some x ∧ x.next = some .receiving ∧ x.fullClose = false) := by
  decide +kernel

theorem witness_queue_timers :
    (let s := { up 0 with q := { (up 0).q with out := [outOf 0 .queued] } }
     s.resetLow = false ∧ s.outRec 1 = some (outOf 0 .queued) ∧ (outOf 0 .queued).state = .queued ∧
     (outOf 0 .queued).nextEligible ≤ s.now ∧ (outOf 0 .queued).told = false) ∧
    ((inPhase 0 .sending (sessionOf 0 true)).link.phase ≠ .idle) ∧
    (let s := { up 21600000 with q := { (up 0).q with inc := [incOf .partly] } }
     s.q.inc.find? (fun x => x.ref = 1 && (x.state = .partly && x.lastChange + 21600000 ≤ s.now)) =
       some (incOf .partly)) ∧
    (let s := { up 259200000 with bul := { (up 0).bul with
                heardList := [{ id := (bulOf .held).id, best := 0, lastHeard := 0 }] } }
     ∃ h ∈ s.bul.heardList, h.lastHeard + 259200000 ≤ s.now) := by decide +kernel

/-- A part with one window. -/
def withWindow (n : Nat) (w : LiveWindow) : State :=
  { up n with clock := clockSet, bul := { (up 0).bul with windows := [w] } }

theorem witness_windows :
    (∀ st ∈ [WindowState.inactive, .guard], ∀ heard : Bool,
      let w : LiveWindow := { win := windowAt, state := st, heard := heard, grace := none }
      let s := withWindow 0 w
      s.resetLow = false ∧ s.bul.windows[1 - 1]? = some w ∧ s.tod = some 0 ∧ w.win.stateAt 0 ≠ w.state) ∧
    (∀ heard : Bool,
      let w : LiveWindow := { win := windowAt, state := .active, heard := heard, grace := none }
      let s := withWindow 3600000 w
      s.tod = some 3600 ∧ w.win.stateAt 3600 ≠ w.state) ∧
    (let w : LiveWindow := { win := windowAt, state := .active, heard := false, grace := some 180000 }
     let s := withWindow 180000 w
     s.resetLow = false ∧ s.bul.windows[1 - 1]? = some w ∧ w.grace = some 180000 ∧ 180000 ≤ s.now) ∧
    (∀ g ∈ [3600000, 3600001],
      let w : LiveWindow := { win := windowAt, state := .active, heard := true, grace := some g }
      let s : State := { withWindow 3600000 w with link := (inPhase 0 .sending (sessionOf 0 true)).link }
      s.bul.windows[1 - 1]? = some w ∧ w.win.stateAt 3600 ≠ w.state ∧ s.lowerSession = true ∧
      s.link.pendingBreak = none ∧ w.grace = some g ∧ (g ≤ s.now ↔ g = 3600000)) := by
  decide +kernel

/-- A quiet window that ends as its grace runs out: the grace expires first (R133). -/
theorem test_grace_expires_at_window_end :
    (withWindow 3600000 { win := windowAt, state := .active, heard := true, grace := some 3600000 }).dueRecords =
      some (.graceExpiry 1) := by decide +kernel

/-- A part with its clock at a moment of day `day`, the hour close armed for day 1. -/
def armed (day secs : Nat) : State :=
  { up 0 with
    clock := { Clock.powerOn with ref := some { since := 0, value := 86400000 * day + 1000 * secs, stand := 0 } },
    tally := { (up 0).tally with closeDay := some 1 } }

/-- A close pending since 0 for want of room in the queue. -/
def pendingQueue : PendingClose := { source := .hour, since := 0, cause := .queue, retryAt := 60000 }

/-- An outgoing queue of 16 records. -/
def fullQueue : List OutRec := (List.range 16).map fun i => { outOf 0 .queued with ref := i + 1, order := i }

theorem witness_close_asked_for :
    (let s := armed 2 (18 * 3600 - 1)
     s.resetLow = false ∧ s.tally.closeDay = some 1 ∧ s.reading = some { day := 2, secs := 64799 } ∧
     ¬ (s.cfg.closeHour * 3600 ≤ 64799) ∧ (1 + 65536 - 1) % 65536 = 0) ∧
    (let s := armed 2 (18 * 3600)
     s.reading = some { day := 2, secs := 64800 } ∧ s.cfg.closeHour * 3600 ≤ 64800 ∧ (2 + 65536 - 1) % 65536 = 1) ∧
    ((1 + 32767 + 65536 - 1) % 65536 = 32767 ∧ (1 + 32768 + 65536 - 1) % 65536 = 32768) ∧
    (armed 2 64800).tally.pending = none ∧ fullQueue.length = 16 ∧
    (up 0).cfg.ownCall ≠ none ∧ (up 0).cfg.portOffice ≠ none ∧ (fresh 0).cfg.ownCall = none := by decide +kernel

theorem witness_close_report :
    ((fresh 0).takes (req []) ∧ (fresh 0).windowOpen) ∧ ((up 0).takes (req []) ∧ (up 0).port.window = none) ∧
    ({ up 0 with tally := { (up 0).tally with pending := some pendingQueue } }.tally.pending ≠ none) ∧
    (let s := { up 0 with q := { (up 0).q with out := fullQueue } }
     s.takes (req []) ∧ s.tally.pending = none ∧ 16 ≤ s.q.out.length) := by
  unfold State.takes State.hears State.windowOpen
  decide +kernel

/-- A part with three reports out, of which none has serial 1. -/
def threeReports : State :=
  { up 60000 with q := { (up 0).q with
    out := (List.range 3).map fun i => { outOf 1 .queued with ref := i + 1, serial := some (i + 2) } } }

theorem witness_granted_close :
    (threeReports.resetLow = false ∧ threeReports.cfg.ownCall = some 12345 ∧ threeReports.cfg.portOffice = some 90001 ∧
      threeReports.q.out.length < 16 ∧ (threeReports.q.out.filter fun o => o.cls = 1).length < 4 ∧
      (∀ o ∈ threeReports.q.out, ¬ (o.cls = 1 ∧ o.serial = some threeReports.tally.serial)) ∧
      threeReports.store.grants .outgoing false (pagesFor (reportLength threeReports.tally.rows.length)) = true ∧
      threeReports.tally.pending = none ∧ threeReports.port.window = none) ∧
    threeReports.takes (req []) ∧
    ((armed 2 64800).tally.closeDay = some 1 ∧ (armed 2 64800).reading = some { day := 2, secs := 64800 } ∧
      laterDay (latestClose 18 { day := 2, secs := 64800 }) 1 = true) ∧
    (let s := { threeReports with tally := { threeReports.tally with pending := some pendingQueue } }
     s.tally.pending = some pendingQueue ∧ pendingQueue.retryAt ≤ s.now) ∧
    (threeReports.store.chain (.out threeReports.q.nextOutRef) = none ∧
      ∀ x ∈ threeReports.tally.rows, x.species.length = 3 ∧ x.area.length = 4) := by
  unfold State.takes State.hears
  decide +kernel

theorem witness_catch_timers :
    (let s := { up 60000 with
                q := { (up 0).q with out := fullQueue }, tally := { (up 0).tally with pending := some pendingQueue } }
     s.resetLow = false ∧ s.tally.pending = some pendingQueue ∧ pendingQueue.retryAt ≤ s.now ∧
     16 ≤ s.q.out.length ∧ pendingQueue.cause = .queue) ∧
    (let s := { fresh 60000 with tally := { (fresh 0).tally with pending := some pendingQueue } }
     s.resetLow = false ∧ s.tally.pending = some pendingQueue ∧ s.cfg.ownCall = none) ∧
    (let w : ReportWatch := { serial := 999, ref := 255, closedAt := 0, closed := none, deadline := 28800000, overdue := false }
     let s := { up 28800000 with tally := { (up 0).tally with watch := [w] } }
     s.resetLow = false ∧
     s.tally.watch.find? (fun x => x.serial = 999 && (!x.overdue && x.deadline ≤ s.now)) = some w) := by decide +kernel

/-- A haul of COD in area 04B1. -/
def cod (number weight : Nat) : Haul :=
  { number := number, species := [67, 79, 68], area := [48, 52, 66, 49], weight := weight }

/-- The parameters of a HAUL ENTRY of COD in area 04B1, of a serial. -/
def haulParams (number weight serial : BitVec 8) : List Byte :=
  [0, number, 67, 79, 68, 48, 52, 66, 49, 0, 0, weight, 0, serial]

/-- A part with one haul. -/
def oneHaul : State :=
  { up 0 with tally := { (up 0).tally with
    hauls := [cod 1 120], rows := [{ species := [67, 79, 68], area := [48, 52, 66, 49], sum := 120, count := 1 }] } }

/-- 96 hauls of COD. -/
def fullHauls : CatchTally := { CatchTally.powerOn with hauls := (List.range 96).map fun i => cod (i + 2) 1 }

/-- 48 rows of other areas. -/
def fullRows : List TallyRow :=
  (List.range 48).map fun i => { species := [67, 79, 68], area := [65, 65, 65, 48 + i], sum := 1, count := 1 }

theorem witness_haul_entry :
    (oneHaul.takes (req []) ∧ haulOf (req []).params = none) ∧
    (haulOf (haulParams 1 0 0) = some (cod 1 0, 0) ∧ haulValid (cod 1 0) 0 = true ∧
      oneHaul.tally.haulOf 1 [67, 79, 68] = some (cod 1 120)) ∧
    (haulOf (haulParams 1 255 1) = some (cod 1 255, 1) ∧ haulValid (cod 1 255) 1 = true ∧ oneHaul.tally.serial = 1 ∧
      (addToRows (takeFromRows oneHaul.tally.rows (cod 1 120)) (cod 1 255)).length ≤ 48) ∧
    (haulOf (haulParams 0 1 0) = some (cod 0 1, 0) ∧ haulValid (cod 0 1) 0 = false) ∧
    (haulValid (cod 1 1) 2 = true ∧ 2 ≠ 0 ∧ 2 ≠ oneHaul.tally.serial) ∧
    (oneHaul.tally.haulOf 2 [67, 79, 68] = none ∧ (addToRows oneHaul.tally.rows (cod 2 1)).length ≤ 48) ∧
    (fullHauls.haulOf 1 [67, 79, 68] = none ∧ 96 ≤ fullHauls.hauls.length) ∧
    48 < (addToRows fullRows (cod 1 1)).length ∧
    48 < (addToRows (takeFromRows (fullRows.map fun r => { r with count := r.count + 1 })
      { cod 1 1 with area := [65, 65, 65, 48] }) (cod 1 1)).length := by
  unfold State.takes State.hears
  decide +kernel

theorem witness_tally_invariant :
    oneHaul.tally.summed ∧ oneHaul.tally.bounded ∧ ∃ t, step oneHaul = .next t := by
  refine ⟨?_, ?_, _, rfl⟩
  · unfold CatchTally.summed; decide +kernel
  · unfold CatchTally.bounded; decide +kernel

/-- A part in a state of own distress, serial 99. -/
def inDistress (n : Nat) (own : OwnState) : State :=
  { up n with dis := { (up n).dis with own := own, serial := some 99, counter := 99, nature := some 90 } }

theorem witness_raise_distress :
    (∀ nature ∈ [65, 90], (up 0).takes (req [nature]) ∧ (up 0).bridge 7 ∧ 65 ≤ nature.toNat ∧ nature.toNat ≤ 90 ∧
      (up 0).cfg.ownCall = some 12345 ∧ (up 0).dis.own = .none ∧ (up 0).burstOut = false) ∧
    ((64 : Byte).toNat < 65 ∧ 90 < (91 : Byte).toNat) ∧ (fresh 0).cfg.ownCall = none ∧
    ((up 0).takes (req []) ∧ (req []).params = []) ∧
    (∀ prevAck : Bool,
      let s := inDistress 0 .cancelPending
      { s with dis := { s.dis with prevAck := prevAck, cancelAt := some 30000 } }.dis.prevAck = prevAck) ∧
    ((inDistress 0 .acknowledged).burstOut = false ∧ (inDistress 0 .acknowledged).cfg.ownCall = some 12345 ∧
      { inDistress 0 .acknowledged with enc := { (up 0).enc with burst := some (frameOf .burst) } }.burstOut = true) ∧
    (∀ own ∈ [OwnState.cancelling, .alerting, .acknowledged, .cancelPending], (inDistress 0 own).takes (req [65]) ∧ (inDistress 0 own).bridge 7 ∧
      (inDistress 0 own).cfg.ownCall ≠ none ∧ (inDistress 0 own).dis.own = own) := by
  unfold State.takes State.hears State.bridge
  decide +kernel

theorem witness_cancel_distress :
    (∀ own ∈ [OwnState.none, .alerting, .acknowledged, .cancelPending, .cancelling],
      (inDistress 0 own).takes (req []) ∧ (inDistress 0 own).bridge 7 ∧ (inDistress 0 own).dis.own = own) ∧
    (let s := inDistress 30000 .cancelPending
     let t := { s with dis := { s.dis with cancelAt := some 30000 } }
     t.resetLow = false ∧ t.dis.own = .cancelPending ∧ t.dis.cancelAt = some 30000 ∧ 30000 ≤ t.now) := by
  unfold State.takes State.hears State.bridge
  decide +kernel

/-- A part in distress whose burst timer stands at 1000. -/
def burstDue (burst : Option FrameReq) : State :=
  let s := inDistress 1000 .alerting
  { s with dis := { s.dis with burstAt := some 1000 }, enc := { s.enc with burst := burst } }

theorem witness_burst_timers :
    ((burstDue none).resetLow = false ∧ (burstDue none).dis.burstAt = some 1000 ∧ 1000 ≤ (burstDue none).now ∧
      (burstDue none).burstOut = false ∧ (burstDue none).cfg.ownCall = some 12345) ∧
    ((burstDue (some (frameOf .burst))).burstOut = true) ∧
    (let s := inDistress 60000 .alerting
     let t := { s with dis := { s.dis with heldSince := some 0 }, enc := { s.enc with burst := some (frameOf .burst) } }
     t.resetLow = false ∧ t.enc.burst = some (frameOf .burst) ∧ t.dis.heldSince = some 0 ∧ 0 + 60000 ≤ t.now ∧
     t.dis.holdDone = false) := by decide +kernel

/-- A position that arrived at 0. -/
def placeAt : Position := { latitude := -5400000, longitude := 10800000, arrival := 0 }

theorem witness_burst_fields :
    ((inDistress 0 .alerting).dis.serial = some 99 ∧ (inDistress 0 .alerting).dis.nature = some 90 ∧
      (inDistress 0 .alerting).dis.alertTime = none ∧ (inDistress 0 .alerting).clock.position = none) ∧
    (let s := { inDistress 600000 .alerting with clock := { Clock.powerOn with position := some placeAt } }
     s.clock.position = some placeAt ∧ s.now ≤ placeAt.arrival + 600000) ∧
    (placeAt.arrival + 600000 < (inDistress 600001 .alerting).now) ∧
    (let s := inDistress 0 .alerting
     { s with dis := { s.dis with alertTime := some 2359 } }.dis.alertTime = some 2359) := by decide +kernel

theorem witness_acknowledge_alert :
    ((withEntry 0 entryOf).takes (req [0, 0, 212, 49]) ∧ (withEntry 0 entryOf).bridge 7 ∧
      selectorAt [0, 0, 212, 49] 3 = some (.one 54321) ∧ (withEntry 0 entryOf).distressEntry 54321 = some entryOf) ∧
    ((up 0).distressEntry 54321 = none) ∧ selectorAt [1] 3 = some .every ∧ selectorAt [] 3 = none ∧
    (({ entryOf with bridgeAck := true }).bridgeAck = true ∧ entryOf.bridgeAck = false ∧
      (up 0).cfg.relayMode = .bridge ∧ (up 0).cfg.ownCall = some 12345 ∧ entryOf.relay = .idle ∧
      (fresh 0).cfg.ownCall = none ∧ ({ entryOf with relay := .sent }).relay ≠ .idle) := by
  unfold State.takes State.hears State.bridge
  decide +kernel

/-- A part whose gap between DCANCEL frames ends at 0. -/
def gapOut (frame : Option FrameReq) : State :=
  let s := inDistress 0 .cancelling
  { s with dis := { s.dis with gapAt := some 0 }, enc := { s.enc with frame := frame } }

/-- An entry whose hold-off of 91 s ends. -/
def heldOff : DistressEntry := { entryOf with relay := .waiting, holdOff := some (91, 91000) }

theorem witness_due_frames :
    ((gapOut none).resetLow = false ∧ (gapOut none).dis.gapAt = some 0 ∧ 0 ≤ (gapOut none).now ∧
      (gapOut none).frameOut = false ∧ (gapOut none).classThree = false ∧ (gapOut none).dis.queue = [] ∧
      (gapOut none).cfg.ownCall = some 12345 ∧ (gapOut none).dis.serial = some 99) ∧
    ((gapOut (some (frameOf .relay))).frameOut = true) ∧
    (inPhase 0 .sending (sessionOf 3 true)).classThree = true ∧
    (let s := withEntry 91000 heldOff
     s.resetLow = false ∧ s.distressEntry 54321 = some heldOff ∧ heldOff.relay = .waiting ∧ heldOff.due = false ∧
     heldOff.holdOff = some (91, 91000) ∧ 91000 ≤ s.now ∧ s.frameOut = false ∧ s.classThree = false ∧
     s.dis.queue = [] ∧ s.cfg.ownCall = some 12345) ∧
    ({ withEntry 91000 heldOff with enc := { (up 0).enc with frame := some (frameOf .dcancel) } }.frameOut = true) := by
  decide +kernel

theorem witness_distress_list_timers :
    (let s := withEntry 180000 entryOf
     s.resetLow = false ∧ s.distressEntry 54321 = some entryOf ∧ entryOf.watch = .running ∧ entryOf.bridgeAck = false ∧
     entryOf.watchEnd ≤ s.now ∧ s.dis.alarm ≠ .pulsed) ∧
    (let s := withEntry 30000 entryOf
     let t := { s with dis := { s.dis with repeatAt := some 30000 } }
     t.dis.repeatAt = some 30000 ∧ 30000 ≤ t.now ∧ t.dis.mostUrgent = some entryOf) ∧
    (let s := withEntry 1000 { entryOf with watch := .expired }
     let t := { s with dis := { s.dis with pulseAt := 1000 } }
     t.dis.alarm = .pulsed ∧ t.dis.pulseAt ≤ t.now) ∧
    (∀ e ∈ [{ entryOf with bridgeAck := true, cancelled := true }, { entryOf with bridgeAck := true, coastAck := some 90001 }],
      let s := withEntry 3600000 e
      s.resetLow = false ∧ s.distressEntry 54321 = some e ∧ e.bridgeAck = true ∧
      (e.coastAck ≠ none ∨ e.cancelled = true) ∧ e.lastHeard + 3600000 ≤ s.now) ∧
    (∀ st ∈ [StationState.quiet, .calling, .distress], ∀ peer : Bool, ∀ phase ∈ [Phase.calling, .sending, .ending],
      let x : Station := { stationOf st with pins := { Pins.empty with distress := true, peer := peer } }
      let s := withEntry 3600000 { entryOf with bridgeAck := true, cancelled := true }
      let t : State := { s with nm := { s.nm with table := [x] }, link := { s.link with phase := phase } }
      t.nm.table = [x] ∧ x.call = 54321 ∧ x.state = st ∧ x.pins.peer = peer ∧ t.link.phase = phase) ∧
    (let s := { up 900000 with dis := { (up 0).dis with lastSilence := some 0 } }
     s.dis.own = .none ∧ s.dis.lastSilence = some 0 ∧ 0 + 900000 ≤ s.now) := by decide +kernel

/-- A frame of a type for an origin and serial, sent by `other` where the type has such a field; the rest unreadable. -/
def heardFrame (type : FrameType) (other origin serial : Nat) : DistressFrame :=
  let sender := if type = .relay ∨ type = .dack then digitIndexes 5 other else []
  { type := type, fields := (sender ++ digitIndexes 5 origin ++ digitIndexes 2 serial).map some, pf := 80, sf := 14 }

theorem witness_heard_alert :
    (∀ type ∈ [FrameType.alert, .relay, .dack, .dcancel], ∀ origin ∈ [9999, 10000, 12345],
      (heardFrame type 90000 origin 1).origin = some origin ∧ (heardFrame type 90000 origin 1).serial = some 1 ∧
      (type = .relay ∨ type = .dack → (heardFrame type 90000 origin 1).other = some 90000)) ∧
    ((heardFrame .dack 54000 54321 1).other = some 54000 ∧ (heardFrame .dack 9999 54321 1).other = some 9999) ∧
    ({ heardFrame .alert 0 0 0 with fields := [] }.origin = none ∧ (up 0).cfg.ownCall = some 12345) ∧
    (∀ e ∈ [entryOf, heldOff, { entryOf with coastAck := some 90000 }],
      (withEntry 0 e).distressEntry 54321 = some e ∧ e.serial = 1 ∧ e.serial ≠ 2) ∧
    ((up 0).distressEntry 54321 = none ∧ (up 0).dis.list.length < 8 ∧ (up 0).callValid 54321 = true ∧
      (up 0).nm.table.length < 24) ∧
    (∀ ack : Bool,
      let list := (List.range 8).map fun i => { entryOf with origin := 20000 + i, bridgeAck := ack && decide (i = 7) }
      let s : State := { up 0 with dis := { (up 0).dis with list := list } }
      s.distressEntry 54321 = none ∧ 8 ≤ s.dis.list.length ∧
      (s.dis.list.find? fun e => e.bridgeAck).isSome = ack ∧ (ack = false → ∀ e ∈ s.dis.list, e.bridgeAck = false)) ∧
    (∀ own ∈ [OwnState.none, .alerting, .acknowledged, .cancelPending, .cancelling], (inDistress 0 own).dis.own = own ∧
      (inDistress 0 own).dis.prevAck = false ∧ (inDistress 0 own).dis.serial = some 99) ∧
    (let s := inDistress 0 .cancelPending
     { s with dis := { s.dis with prevAck := true } }.dis.prevAck = true) := by decide +kernel

theorem witness_alarm_invariant :
    (withEntry 0 entryOf).alarmRight ∧ (withEntry 0 entryOf).dis.alarm ≠ .off ∧
    ∃ t, step (withEntry 0 entryOf) = .next t := ⟨rfl, by decide +kernel, _, rfl⟩

/-- A part with a line's input as given. -/
def withInput (n : Nat) (l : Line) (x : Input) : State := { up n with lines := (up n).lines.setInput l x }

theorem witness_lines :
    (∀ l ∈ [Line.dis, .cnl, .txinh, .cd], ∀ high asserted : Bool, ∀ candidate ∈ [none, some 0],
      let x : Input := { asserted := asserted, candidate := candidate, changes := 65535 }
      (withInput 0 l x).resetLow = false ∧ (withInput 0 l x).lines.input l = x ∧
      (high = asserted ∨ high ≠ asserted)) ∧
    (∀ l ∈ [Line.dis, .cnl, .txinh, .cd], ∀ asserted : Bool,
      let x : Input := { asserted := asserted, candidate := some 0, changes := 0 }
      let s := withInput (match l with
        | .dis => 3000
        | .cnl => 3000
        | .txinh => 20
        | .cd => 50) l x
      s.resetLow = false ∧ (s.lines.input l).candidate = some 0 ∧
      0 + (match l with
        | .dis => 3000
        | .cnl => 3000
        | .txinh => 20
        | .cd => s.cfg.cdFilter) ≤ s.now) ∧
    ((up 0).cfg.busyRule = .any ∧ (fresh 0).cfg.ownCall = none) ∧
    (∀ rule ∈ [BusyRule.any, .both], ∀ asserted busy : Bool, ∀ sync ∈ [SyncState.hunting, .spreadSync],
      let s := withInput 50 .cd { asserted := asserted, candidate := some 0, changes := 0 }
      let t : State := { s with cfg := { s.cfg with busyRule := rule }, nm := { s.nm with busy := busy },
                                dec := { s.dec with sync := sync } }
      t.cfg.busyRule = rule ∧ t.nm.busy = busy ∧ t.dec.lastBlock = none ∧ t.enc.inFlight = none ∧ t.resetLow = false ∧
      (t.lines.input .cd).candidate = some 0 ∧ 0 + t.cfg.cdFilter ≤ t.now) ∧
    (∀ own ∈ [OwnState.none, .alerting, .acknowledged, .cancelPending, .cancelling],
      let s := inDistress 3000 own
      s.dis.own = own ∧ s.cfg.ownCall = some 12345 ∧ s.burstOut = false ∧ s.frameOut = false ∧ s.classThree = false ∧
      s.dis.queue = [] ∧ s.dis.serial = some 99) ∧
    (∀ kind ∈ [FrameKind.burst, .relay], ∀ newer : Bool,
      let x : Transmission := { item := .frame (frameOf kind), slots := (frameOf kind).slots, start := 0 }
      let s := withInput 20 .txinh { asserted := false, candidate := some 0, changes := 0 }
      let t : State := { s with enc := { s.enc with
        inFlight := some x, burst := if newer then some { frameOf .burst with placed := 10 } else none } }
      t.enc.inFlight = some x ∧ x.item = .frame (frameOf kind) ∧ (newer = true → t.enc.burst ≠ none)) ∧
    (∀ closing : Bool,
      let r : LinkReq := { linkOf .block 0 with closing := closing }
      let s := withInput 20 .txinh { asserted := false, candidate := some 0, changes := 0 }
      let t : State := { s with enc := { s.enc with inFlight := some { item := .link r, slots := [], start := 0 } } }
      t.enc.inFlight = some { item := .link r, slots := [], start := 0 } ∧ r.closing = closing) := by
  decide +kernel

/-- A part whose clock reads a moment of day 0, in seconds. -/
def reads (secs : Nat) : State :=
  { up 0 with clock := { Clock.powerOn with ref := some { since := 0, value := 1000 * secs, stand := 0 } } }

theorem witness_time :
    ((up 0).hears 7 ∧ 86399 < (86400 : BitVec 24).toNat ∧ (86399 : BitVec 24).toNat ≤ 86399 ∧
      (up 0).clock.ref = none) ∧
    ((reads 10).hears 7 ∧ (reads 10).clock.ref = some { since := 0, value := 10000, stand := 0 } ∧
      ClockRef.at { since := 0, value := 10000, stand := 0 } 0 = 10000) ∧
    ((12 + 65536 * 86400 - 10) % (65536 * 86400) = 2 ∧ (8 + 65536 * 86400 - 10) % (65536 * 86400) = 65536 * 86400 - 2 ∧
      (13 + 65536 * 86400 - 10) % (65536 * 86400) = 3 ∧ (7 + 65536 * 86400 - 10) % (65536 * 86400) = 65536 * 86400 - 3) ∧
    ((12000 + 1000 * (65536 * 86400) - 10000) % (1000 * (65536 * 86400)) ≤ 500 * (65536 * 86400) ∧
      500 * (65536 * 86400) < (8000 + 1000 * (65536 * 86400) - 10000) % (1000 * (65536 * 86400))) := by
  unfold State.hears
  decide +kernel

theorem witness_clock_and_position :
    (∃ c, (reads 10).clock.ref = some c ∧ c.stand = 0 ∧ c.since ≤ (reads 10).now) ∧
    (let s := { up 600000 with clock := { Clock.powerOn with synced := true, lastTime := some 0 } }
     s.resetLow = false ∧ s.clock.synced = true ∧ s.clock.lastTime = some 0 ∧ 0 + 600000 ≤ s.now) ∧
    ((up 0).hears 7 ∧
      (BitVec.ofInt 32 (-5400000)).toInt = -5400000 ∧ (BitVec.ofInt 32 10800000).toInt = 10800000 ∧
      (BitVec.ofInt 32 (-5400001)).toInt < -5400000 ∧ 10800000 < (BitVec.ofInt 32 10800001).toInt) := by
  unfold State.hears
  refine ⟨⟨_, rfl, by decide, by decide⟩, by decide +kernel, by decide +kernel⟩

/-- A part with an assembly of HAUL ENTRY from station 7. -/
def assembling (next count : Byte) : State :=
  { up 1000 with port := { (up 0).port with
    assemblies := [{ src := 7, tag := 1, cls := 112, count := count, next := next, params := [0], last := 0 }] } }

/-- Eight assemblies of other stations. -/
def eightAssemblies : State :=
  { up 0 with port := { (up 0).port with assemblies := (List.range 8).map fun i =>
    { src := BitVec.ofNat 8 (10 + i), tag := 1, cls := 112, count := 1, next := 1, params := [], last := 0 } } }

theorem witness_assemblies :
    (∀ count ∈ [(1 : Byte), 15, 16], (up 0).hears 7 ∧ (up 0).port.assembly 7 = none ∧
      requestClass (112 : Byte).toNat = true ∧ 1 ≤ count.toNat ∧ [0, 0, 0, 0, 0, (0 : Byte)].length ≤ 6 ∧
      (up 0).port.assemblies.length < 8) ∧ (15 : Byte).toNat ≤ 15 ∧ 15 < (16 : Byte).toNat ∧
    ((assembling 1 2).hears 7 ∧ (assembling 1 2).port.assembly 7 ≠ none) ∧
    (eightAssemblies.hears 7 ∧ eightAssemblies.port.assembly 7 = none ∧ 8 ≤ eightAssemblies.port.assemblies.length) ∧
    (∃ a, (assembling 1 2).port.assembly 7 = some a ∧ a.tag = 1 ∧ a.tag ≠ 2 ∧ (1 : Byte) = a.next ∧ (1 : Byte) ≠ a.count ∧
      (0 : Byte) ≠ a.next ∧ (0 : Byte) = a.next - 1 ∧ (15 : Byte) ≠ a.next ∧ (15 : Byte) ≠ a.next - 1) ∧
    ((assembling 1 1).hears 7 ∧ ∃ a, (assembling 1 1).port.assembly 7 = some a ∧ a.tag = 1 ∧ a.next = a.count ∧
      a.cls = 112 ∧ (∃ row ∈ requestRows, a.cls = row.1) ∧ a.params ++ [0] = 0 :: [0]) ∧
    ((∃ row ∈ configureRows, (1 : Byte) = row.1) ∧ ∃ row ∈ statusRows, (19 : Byte) = row.1) ∧
    (∃ a, (assembling 1 1).port.assemblies.find? (fun x => x.src = 7 && x.last + 1000 ≤ (assembling 1 1).now) = some a) := by
  unfold State.hears
  refine ⟨by decide +kernel, by decide, by decide, by decide +kernel, by decide +kernel, ⟨_, rfl, by decide⟩,
    ⟨by decide +kernel, _, rfl, rfl, rfl, rfl, ?_, rfl⟩, ⟨?_, ?_⟩, _, rfl⟩
  · exact ⟨(112, .haulEntry), by simp [requestRows], rfl⟩
  · exact ⟨(1, .configureOwnCall), by simp [configureRows], rfl⟩
  · exact ⟨(19, .statusBusPort), by simp [statusRows], rfl⟩

theorem witness_port_refuses :
    ((up 0).resetLow = false ∧ (up 0).port.station = 0) ∧
    (let f : CanFrame := { priority := 0, cls := 1, dest := 0, src := 7, data := [] }
     f.dest = (up 0).port.station ∧ f.src ≠ (up 0).port.station ∧ f.command = none) ∧
    (let f : CanFrame := { priority := 0, cls := 1, dest := 254, src := 7, data := [] }
     f.dest ≠ (up 0).port.station ∧ f.dest ≠ 255 ∧ f.cls ≠ 16 ∧ f.cls ≠ 17) ∧
    (let f : CanFrame := { priority := 0, cls := 16, dest := 255, src := 7, data := [0, 1, 0, 0, 1] }
     f.command = some (.time 7 1 1) ∧ f.dest = 255 ∧ f.cls = 16) ∧
    ((up 0).takes (req []) ∧ (up 0).bridge 7) ∧
    (let s := { up 0 with port := { (up 0).port with bridge := [8] } }
     s.takes (req []) ∧ ¬ s.bridge 7) := by
  unfold State.takes State.hears State.bridge
  decide +kernel

/-- The parameters of SEND MESSAGE to 54321, of a class and a length below 256. -/
def sendParams (cls length : Byte) : List Byte := [0, 212, 49, cls, 0, length]

/-- An intake from station 7 for record 1. -/
def intakeOf (length received : Nat) : Intake :=
  { station := 7, tag := 1, ref := 1, length := length, received := received, expected := 3, substituted := 0, last := 0 }

/-- A part with an intake open. -/
def intakeOpen (length received : Nat) : State :=
  { up 0 with port := { (up 0).port with intake := some (intakeOf length received) },
              q := { (up 0).q with out := [outOf 0 .intake] } }

/-- A store whose outgoing class has no room. -/
def outgoingFull : TextStore :=
  { TextStore.powerOn with chains :=
    [{ key := .out 9, cls := .outgoing, distress := false, charges := List.replicate 176 false, text := [] }] }

theorem witness_send_message :
    (∀ cls ∈ [(0 : Byte), 1, 2, 3], (up 0).takes (req (sendParams cls 1)) ∧
      numAt (sendParams cls 1) 0 3 = some 54321 ∧ numAt (sendParams cls 1) 3 1 = some cls.toNat ∧
      numAt (sendParams cls 1) 4 2 = some 1 ∧ (up 0).cfg.ownCall ≠ some 54321 ∧ cls.toNat ≤ 3) ∧
    (numAt [0, 212, 49, 0, 15, 160] 4 2 = some 4000 ∧ numAt [0, 212, 49, 0, 15, 161] 4 2 = some 4001) ∧
    ((intakeOpen 1 0).takes (req (sendParams 0 1)) ∧ (intakeOpen 1 0).port.intake ≠ none) ∧
    (let s := { up 0 with q := { (up 0).q with out := fullQueue } }
     s.takes (req (sendParams 0 1)) ∧ 16 ≤ s.q.out.length) ∧
    ((up 0).q.out.length < 16 ∧ (up 0).store.chain (.out 1) = none ∧
      ((up 0).store.take (.out 1) .outgoing (decide (0 = 3)) (pagesFor 1)).1 = .granted) ∧
    (outgoingFull.chain (.out 1) = none ∧ outgoingFull.quotaCount .outgoing = outgoingFull.quota.get .outgoing ∧
      (outgoingFull.take (.out 1) .outgoing (decide (0 = 3)) (pagesFor 1)).1 ≠ .granted ∧
      (outgoingFull.take (.out 1) .outgoing (decide (3 = 3)) (pagesFor 4000)).1 = .granted) := by
  unfold State.takes State.hears
  decide +kernel

theorem witness_text :
    ((up 0).hears 7 ∧ [(65 : Byte)] ≠ [] ∧ (List.replicate 7 (65 : Byte)).length ≤ 7 ∧ (up 0).port.intake = none) ∧
    ((intakeOpen 8 0).hears 7 ∧ (intakeOpen 8 0).port.intake = some (intakeOf 8 0) ∧ (intakeOf 8 0).station = 7 ∧
      (intakeOf 8 0).station ≠ 8 ∧ (intakeOf 8 0).expected = 3 ∧ (intakeOf 8 0).received + 7 < (intakeOf 8 0).length ∧
      6 < min 7 ((intakeOf 8 0).length - (intakeOf 8 0).received)) ∧
    ((intakeOf 7 0).received < (intakeOf 7 0).length ∧ (intakeOf 7 0).length ≤ (intakeOf 7 0).received + 7) ∧
    ((2 : Byte) ≠ (intakeOf 8 0).expected ∧ (2 : Byte) = (intakeOf 8 0).expected - 1 ∧
      (4 : Byte) ≠ (intakeOf 8 0).expected ∧ (4 : Byte) ≠ (intakeOf 8 0).expected - 1) ∧
    ((intakeOf 8 0).last + 5000 ≤ { intakeOpen 8 0 with now := 5000 }.now) := by
  unfold State.hears
  decide +kernel

theorem witness_cancel_message :
    ((up 0).takes (req [1]) ∧ (up 0).outRec 1 = none) ∧
    (∀ x ∈ [outOf 1 .queued, outOf 0 .intake, outOf 3 .active, outOf 2 .queued],
      let s := { up 0 with q := { (up 0).q with out := [x] } }
      s.takes (req [1]) ∧ s.outRec (1 : Byte).toNat = some x) := by
  unfold State.takes State.hears
  decide +kernel

/-- A readout of a bulletin. -/
def readoutOf (total next waiting : Nat) (placed : Option Nat) : Readout :=
  { station := 7, tag := 1, key := .bul 1, total := total, next := next, seq := 0, fragments := 0, placed := placed,
    waiting := waiting, endPlaced := false, carriedAt := 0 }

/-- A part with a readout open and nothing else to send. -/
def readoutOpen (n : Nat) (x : Readout) : State :=
  { up n with port := { (up 0).port with readout := some x, current := none } }

theorem witness_readouts :
    (selectorAt [0, 1] 1 = some (.one 1) ∧ (readoutOpen 0 (readoutOf 10 0 0 none)).takes (req [0, 1]) ∧
      (readoutOpen 0 (readoutOf 10 0 0 none)).port.readout ≠ none) ∧
    ((up 0).takes (req [0, 1]) ∧ (up 0).port.readout = none ∧ (up 0).incRec 1 = none ∧ (up 0).bulRec 1 = none) ∧
    (∀ st ∈ [IncState.receiving, .partly, .complete, .reading],
      let s := { up 0 with q := { (up 0).q with inc := [incOf st] } }
      s.takes (req [0, 1]) ∧ s.incRec 1 = some (incOf st)) ∧
    (∀ st ∈ [BulState.receiving, .held, .reading],
      let s := { up 0 with bul := { (up 0).bul with recs := [bulOf st] } }
      s.takes (req [0, 1]) ∧ s.bulRec 1 = some (bulOf st)) ∧
    (let x := readoutOf 10 7 1 (some 0)
     let s := readoutOpen 10 x
     s.resetLow = false ∧ s.port.readout = some x ∧ x.next < x.total ∧ s.port.held < 4 ∧
     x.placed = some 0 ∧ 0 + 10 ≤ s.now) ∧
    (let x := readoutOf 10 10 0 (some 0)
     x.total ≤ x.next ∧ x.waiting = 0 ∧ x.endPlaced = false ∧ (readoutOpen 10 x).port.held < 4) ∧
    (readoutOf 10 7 1 (some 0)).carriedAt + 5000 ≤ (readoutOpen 5000 (readoutOf 10 7 1 (some 0))).now ∧
    (let m : OutMsg := { kind := .readoutText 7 0 [65], content := [], carried := 0 }
     let s := readoutOpen 5000 (readoutOf 10 7 1 (some 0))
     let t : State := { s with port := { s.port with current := some m } }
     t.port.current = some m ∧ m.ofReadout = true) ∧
    (let s := { up 5000 with port := { (up 0).port with droppedAt := some 5000 } }
     s.resetLow = false ∧ s.port.droppedAt = some s.now) := by
  unfold State.takes State.hears
  decide +kernel

/-- A notice of one frame, urgent or not. -/
def noticeOf (urgent : Bool) : OutMsg := { kind := .notice 50 urgent 0, content := [], carried := 0 }

/-- A port with messages waiting. -/
def portOf (stopped : Bool) (current : Option OutMsg) (waiting : List OutMsg) : Port :=
  { (up 0).port with stopped := stopped, current := current, waiting := waiting }

/-- A notice of 64 frames. -/
def longNotice : OutMsg := { noticeOf false with content := [.text (List.replicate 383 65)] }

theorem witness_outgoing_queue :
    ((up 0).resetLow = false ∧ (up 0).port.readout = none ∧ (portOf false none []).current = none ∧
      (up 0).port.droppedAt ≠ some (up 0).now) ∧
    (∀ m ∈ [noticeOf false, { noticeOf false with kind := .readoutText 7 0 [65] },
        { noticeOf false with kind := .endOfText 7 1 10 2 }], ∀ key ∈ [RecKey.bul 1, .inc 1],
      let s : State := { up 5000 with port := { (up 0).port with
                  current := some m, readout := some { readoutOf 10 10 1 (some 0) with key := key } } }
      s.port.current = some m ∧ (s.port.readout.map (·.key)) = some key ∧ s.port.droppedAt ≠ some s.now) ∧
    ((noticeOf false).ofReadout = false) ∧
    (∃ m, (up 0).port.current = some m ∧ m.frames ≤ m.carried + 1) ∧
    (longNotice.frames = 64 ∧ longNotice.carried + 1 < longNotice.frames) ∧
    ((portOf true none []).stopped = true ∧ (portOf false (some (noticeOf false)) []).current ≠ none) ∧
    (∀ x ∈ [noticeOf false], x.urgent = false) ∧ (noticeOf true).urgent = true ∧
    (∃ x ∈ (portOf false none [noticeOf false, noticeOf true]).waiting, x.urgent = true) ∧
    (64 < (portOf false (some (noticeOf false)) []).held + longNotice.frames) ∧
    ((portOf true none []).held + longNotice.frames ≤ 64) := by
  refine ⟨by decide +kernel, by decide +kernel, by decide +kernel, ⟨_, rfl, by decide +kernel⟩, ?_⟩
  decide +kernel

theorem witness_aux_and_selection :
    ((up 0).takes (req [3, 2]) ∧ (3 : Byte).toNat ≤ 3 ∧ auxLevelOf (2 : Byte).toNat = some .opened ∧ (up 0).dis.own = .none) ∧
    (3 < (4 : Byte).toNat ∧ 2 < (3 : Byte).toNat) ∧
    (let s := { inDistress 0 .alerting with cfg := { (up 0).cfg with auxModes := List.replicate 4 .driveHigh } }
     s.takes (req [3, 2]) ∧ s.dis.own ≠ .none ∧ s.cfg.auxModes.getD 3 .hold ≠ .hold) ∧
    ((up 0).bridge 7 ∧ lettersAt (List.replicate 52 1) 0 = some (BitVec.allOnes 26) ∧
      lettersAt (List.replicate 52 1) 26 = some (BitVec.allOnes 26)) := by
  unfold State.takes State.hears State.bridge
  decide +kernel

theorem witness_link_restart :
    (let s := { inPhase 100 .sending (sessionOf 0 true) with
                enc := { (up 0).enc with burst := some (frameOf .burst), frame := some (frameOf .relay) } }
     s.takes (req []) ∧ s.bridge 7 ∧ s.enc.burst = some (frameOf .burst) ∧ s.enc.frame = some (frameOf .relay) ∧
     s.dec.sync ≠ .spreadSync ∧ s.enc.inFlight = none ∧ s.dis.queue = [] ∧ s.receivingBul = none ∧
     s.bul.suspended = none ∧ s.link.phase.running = true ∧ s.link.session = some (sessionOf 0 true) ∧
     (up 0).link.phase.running = false) := by
  unfold State.takes State.hears State.bridge
  decide +kernel

theorem witness_configure_numbers :
    ((fresh 0).takes (req [0]) ∧ (fresh 0).windowOpen ∧ numAt [0] 0 1 = some 0 ∧ numAt [255] 0 1 = some 255 ∧
      numAt [29] 0 1 = some 29 ∧ numAt [30] 0 1 = some 30 ∧ numAt [124] 0 1 = some 124 ∧ numAt [125] 0 1 = some 125 ∧
      numAt [0, 0] 0 2 = some 0 ∧ numAt [255, 255] 0 2 = some 65535) ∧
    (numAt [0, 39, 16] 0 3 = some 10000 ∧ numAt [1, 95, 143] 0 3 = some 89999 ∧ numAt [1, 95, 144] 0 3 = some 90000 ∧
      numAt [1, 134, 159] 0 3 = some 99999 ∧ numAt [1, 134, 160] 0 3 = some 100000) ∧
    (relayModeOf 2 = some .auto ∧ busyRuleOf 1 = some .both ∧ originFilterOf 1 = some .schedule ∧ 2 < 3 ∧ 1 < 2) ∧
    (let params : List Byte := [255, 0, 1, 2, 3, 4, 5]
     (fresh 0).takes (req params) ∧ params = [255, 0, 1, 2, 3, 4] ++ 5 :: [] ∧ (5 : Byte) ≠ 255 ∧
     (5 : Byte) ≠ (fresh 0).port.station ∧ (5 : Byte) ∉ [255, 0, 1, 2, 3, 4]) ∧
    (numAt [0, 192, 0, 128, 0, 176] 0 2 = some 192 ∧ numAt [0, 192, 0, 128, 0, 176] 2 2 = some 128 ∧
      numAt [0, 192, 0, 128, 0, 176] 4 2 = some 176) := by
  unfold State.takes State.hears State.windowOpen
  decide +kernel

/-- The value of a schedule window of a coast call, start minute and duration. -/
def windowParams (last start1 start0 duration : Byte) : List Byte :=
  [1, 95, last, 65, 66, start1, start0, duration, 67, 1]

theorem witness_configure_windows :
    (∀ p ∈ [windowParams 144 5 159 0, windowParams 144 0 0 61, windowParams 143 0 0 60, windowParams 144 5 160 60],
      (fresh 0).takes (req p) ∧ (fresh 0).windowOpen ∧ (windowOf p).isSome = true) ∧
    (windowOf (windowParams 144 5 159 60) = some { windowAt with coast := 90000, start := 1439 } ∧
      90000 ≤ 90000 ∧ 1439 ≤ 1439) ∧
    ((fresh 0).recd.windows.length < 8 ∧
      8 ≤ { fresh 0 with recd := { (fresh 0).recd with windows := List.replicate 8 windowAt } }.recd.windows.length) ∧
    (lettersAt (List.replicate 52 0) 0 = some 0 ∧ lettersAt (List.replicate 52 0) 26 = some 0) ∧
    (numAt [3, 3] 0 1 = some 3 ∧ numAt [3, 3] 1 1 = some 3 ∧ auxModeOf 3 = some .driveLow ∧ 3 < 4) := by
  unfold State.takes State.hears State.windowOpen
  decide +kernel

/-- A part with its configuration window open: a port office and eight windows recorded, 15 stations in the table, a CD
candidate since 0, and a clock. -/
def closing (n : Nat) (clock : Clock) (day : Option Nat) : State :=
  let s := fresh n
  let settings : Settings := { s.recd.settings with ownCall := some 12345, portOffice := some 99999 }
  { s with
    recd := { s.recd with
      settings := settings, windows := (List.range 8).map fun i => { windowAt with coast := 90000 + i } },
    nm := { s.nm with table := { stationOf .quiet with call := 90000 } :: fullTable.take 14 },
    lines := { s.lines with cd := { s.lines.cd with candidate := some 0 } },
    clock := clock, tally := { s.tally with closeDay := day } }

theorem witness_config_closed :
    ((fresh 0).takes (req []) ∧ (fresh 0).windowOpen) ∧
    ((fresh 30000).resetLow = false ∧ (fresh 30000).port.window = some 0 ∧ 0 + 30000 ≤ (fresh 30000).now) ∧
    ((up 0).takes (req []) ∧ (up 0).port.window = none) ∧
    ((fresh 0).recd.selection = none ∧ (fresh 0).recd.quotas = none) ∧
    ({ (fresh 0).recd with quotas := some { bulletin := 32, incoming := 32, outgoing := 432 }
                           selection := some (0, 0) }.quotas =
      some { bulletin := 32, incoming := 32, outgoing := 432 }) ∧
    (∀ n ∈ [49, 50], ∀ clock ∈ [Clock.powerOn, clockSet], ∀ day ∈ [none, some 65535],
      let s := closing n clock day
      s.takes (req []) ∧ s.windowOpen ∧ s.lines.cd.candidate = some 0 ∧ s.recd.settings.cdFilter = 50 ∧
      s.tally.closeDay = day ∧ s.reading.isSome = clock.ref.isSome ∧
      s.nm.table.length + s.recd.windows.length + 1 = 24 ∧ s.recd.settings.portOffice = some 99999 ∧
      s.station 99999 = none ∧ (s.station 90000).isSome = true ∧ s.recd.settings.ownCall = some 12345 ∧
      ∀ w ∈ s.recd.windows, 10000 ≤ w.coast ∧ w.coast ≤ 99999 ∧ s.recd.settings.ownCall ≠ some w.coast) := by
  unfold State.takes State.hears State.windowOpen
  decide +kernel

theorem witness_status :
    ((up 0).takes (req [0, 1]) ∧ numAt [0, 1] 0 2 = some 1 ∧ numAt [0, 0] 0 2 = some 0) ∧
    ({ up 0 with clock := { Clock.powerOn with position := some placeAt } }.clock.position = some placeAt) ∧
    ({ up 0 with nm := { (up 0).nm with overheard := some linkHeard } }.nm.overheard = some linkHeard ∧
      linkHeard.swapAt = none) ∧
    (oneHaul.tally.hauls[1 - 1]? = some (cod 1 120) ∧ 1 ≤ 1 ∧
      oneHaul.tally.rows[1 - 1]? = some { species := [67, 79, 68], area := [48, 52, 66, 49], sum := 120, count := 1 }) ∧
    (∀ n ∈ [0, 2], ¬ (1 ≤ n ∧ n ≤ oneHaul.tally.hauls.length)) ∧ (1 ≤ 1 ∧ 1 ≤ oneHaul.tally.hauls.length) := by
  unfold State.takes State.hears
  decide +kernel

/-- A part with one window of a state, a selection and bulletin records. -/
def receiver (subjects : BitVec 26) (recs : List BulRec) (heard : List Heard) : State :=
  let s := withWindow 0 { win := windowAt, state := .active, heard := false, grace := none }
  { s with bul := { s.bul with subjects := subjects, recs := recs, heardList := heard } }

/-- The header of a bulletin from AB, of a subject, for area D, of a serial. -/
def headerOf (subject serial : Nat) : List (Option Nat) :=
  ([33, 34, subject - 32, 36] ++ digitIndexes 2 serial ++ [95]).map some

/-- 32 records, HELD and read or not, the first received the earliest. -/
def fullBulletins (st : BulState) : List BulRec :=
  (List.range 32).map fun i => { bulOf st with index := i + 1, start := i, read := true }

/-- A bulletin read out, of another serial, at index 2. -/
def oldBul : BulRec := { bulOf .held with index := 2, read := true, id := { (bulOf .held).id with serial := 2 } }

/-- A store whose bulletin 1 has one page and bulletin 2 the rest of the quota. -/
def quotaTaken : TextStore :=
  { TextStore.powerOn with chains :=
    [{ key := .bul 1, cls := .bulletin, distress := false, charges := [false], text := [] },
      { key := .bul 2, cls := .bulletin, distress := false, charges := List.replicate 191 false, text := [] }] }

theorem witness_bulletin_headers :
    ((receiver 0 [] []).receivingBul = none ∧ readHeader [] = none) ∧
    (∀ subject ∈ [65, 68, 71, 83, 90], ∀ serial ∈ [0, 99], readHeader (headerOf subject serial) =
      some { origin1 := 65, origin2 := 66, subject := subject, area := 68, serial := serial }) ∧
    ((receiver 0 [] []).bul.subjects.getLsbD (67 - 65) = false ∧
      (receiver (BitVec.allOnes 26) [] []).bul.subjects.getLsbD (67 - 65) = true ∧
      (receiver 0 [] []).bul.areas.getLsbD (68 - 65) = true ∧ (receiver 0 [] []).bul.origins = .any) ∧
    (∀ h ∈ [({ id := (bulOf .held).id, best := 40, lastHeard := 0 } : Heard)],
      let s := receiver (BitVec.allOnes 26) [] [h]
      s.bul.heardList.find? (fun x => x.id = (bulOf .held).id) = some h ∧ h.best ≤ s.cfg.goodLimit) ∧
    (let s := receiver (BitVec.allOnes 26) [] []
     s.bul.recs.length < 32 ∧ (s.store.take (.bul s.bul.nextIndex) .bulletin false 1).1 = .granted ∧ s.bul.heardList = []) ∧
    (let s := receiver (BitVec.allOnes 26) (fullBulletins .held) []
     s.receivingBul = none ∧ s.bul.recs.length = 32 ∧ (s.bul.recs.map (·.index)).Nodup ∧
     (∃ old ∈ s.bul.recs, old.state = .held ∧ old.read = true ∧
       (∀ x ∈ s.bul.recs, x.state = .held → x.read = true → x ≠ old → old.start < x.start) ∧
       (s.store.free (.bul old.index)).quotaCount .bulletin < s.store.quota.bulletin)) ∧
    (let s := receiver (BitVec.allOnes 26) (fullBulletins .reading) []
     s.receivingBul = none ∧ 32 ≤ s.bul.recs.length ∧ ∀ x ∈ s.bul.recs, x.state ≠ .held) ∧
    (let s : State := { receiver (BitVec.allOnes 26) [oldBul] [] with store := quotaTaken }
     s.receivingBul = none ∧ s.bul.recs.length < 32 ∧
     (s.store.take (.bul s.bul.nextIndex) .bulletin false 1).1 ≠ .granted ∧ oldBul ∈ s.bul.recs ∧ oldBul.state = .held ∧
     oldBul.read = true ∧ (s.store.free (.bul 2)).quotaCount .bulletin < s.store.quota.bulletin) := by
  refine ⟨by decide +kernel, by decide +kernel, by decide +kernel, by decide +kernel, by decide +kernel,
    ⟨by decide +kernel, by decide +kernel, by decide +kernel, _, List.mem_cons_self .., rfl, rfl, by decide +kernel,
      by decide +kernel⟩, by decide +kernel, by decide +kernel⟩

/-- A bulletin being received with a number of characters, of a serial. -/
def hearingBul (c serial : Nat) : BulRec :=
  { bulOf .receiving with c := c, r := none, pf := none, ending := none, id := { (bulOf .held).id with serial := serial } }

/-- A store whose bulletin 1 has a number of pages. -/
def bulletinStore (pages : Nat) : TextStore :=
  { TextStore.powerOn with chains :=
    [{ key := .bul 1, cls := .bulletin, distress := false, charges := List.replicate pages false, text := [] }] }

theorem witness_bulletin_bodies_and_ends :
    (∀ r ∈ [hearingBul 255 1, hearingBul 256 1, hearingBul 4096 1, hearingBul 0 1],
      let s := receiver 0 [r] []
      s.receivingBul = some r ∧ s.bul.suspended = none ∧ r.truncated = false ∧ r.id.serial ≠ 0 ∧
      (∀ x ∈ s.bul.recs, x.index ≠ r.index → x.id ≠ r.id) ∧ s.bul.heardList = [] ∧ s.bul.heardList.length < 64) ∧
    ((bulletinStore 1).pagesOf (.bul 1) = 1 ∧ (bulletinStore 16).pagesOf (.bul 1) = 16 ∧ (up 0).cfg.pageLimit = 16 ∧
      (256 * 1 : Nat) ≤ 256 ∧ 256 * 16 ≤ 4096) ∧
    (∀ ending ∈ [some Ending.whole, some (Ending.cut .markers)], ∀ ratio ∈ [some 0, some 1],
      let old := { bulOf .held with index := 2, ending := ending, r := ratio }
      let r := hearingBul 10 1
      let s := receiver 0 [old, r] []
      s.receivingBul = some r ∧ old ∈ s.bul.recs ∧ old.index ≠ r.index ∧ old.id = r.id ∧ old.state = .held ∧
      (∀ x ∈ s.bul.recs, x.index ≠ r.index → x.id = r.id → x = old) ∧ erasureRatio r.c r.e = 0) ∧
    (let take (store : TextStore) := (store.take (.bul 1) .bulletin false 1).1
     take (bulletinStore 1) = .granted ∧ take quotaTaken ≠ .granted ∧
     take ((quotaTaken.take (.bul 1) .bulletin false 1).2.free (.bul 2)) = .granted ∧
     quotaTaken.pagesOf (.bul 1) = 1 ∧ (hearingBul 256 1).c = 256 ∧
     ∀ recs ∈ [[hearingBul 256 1], [oldBul, hearingBul 256 1]],
       let s : State := { receiver 0 recs [] with store := quotaTaken }
       s.receivingBul = some (hearingBul 256 1) ∧ s.bul.suspended = none ∧ (recs.map (·.index)).Nodup ∧
       s.store.pagesOf (.bul 1) < s.cfg.pageLimit) ∧
    (let r := hearingBul 10 1
     let s := receiver 0 [{ bulOf .reading with index := 2 }, r] []
     s.receivingBul = some r ∧ ∃ old ∈ s.bul.recs, old.index ≠ r.index ∧ old.id = r.id ∧ old.state = .reading) ∧
    (let s := receiver 0 [hearingBul 10 1] []
     let t : State := { s with bul := { s.bul with suspended := some (20, 320) } }
     t.receivingBul = some (hearingBul 10 1) ∧ t.bul.suspended = some (20, 320) ∧
     readHeader (headerOf 67 1) = some (hearingBul 10 1).id ∧ readHeader (headerOf 67 2) ≠ some (hearingBul 10 1).id) := by
  refine ⟨by decide +kernel, by decide +kernel, by decide +kernel, by decide +kernel,
    ⟨by decide +kernel, _, List.mem_cons_self .., by decide +kernel, by decide +kernel, by decide +kernel⟩,
    by decide +kernel⟩

theorem witness_configuration_holds :
    (let s := { up 0 with pending := [.configureOwnCall (req [0, 39, 16])] }
     s.port.window = none ∧ (∀ c ∈ s.pending.take 1, c.isReset = false) ∧ ∃ t, step s = .next t) :=
  ⟨rfl, by decide, _, rfl⟩

/-- A store at its limits: a class at its quota and the reserve all in use. -/
def fullStore : TextStore :=
  { TextStore.powerOn with chains :=
    [{ key := .out 1, cls := .outgoing, distress := true,
       charges := List.replicate 176 false ++ List.replicate 16 true, text := [] }] }

theorem witness_store_invariant :
    (let s := { fresh 0 with store := fullStore }
     s.storeRight ∧ s.windowOpen ∧ ∃ t, step s = .next t) := by
  refine ⟨⟨⟨by decide, by decide, ?_, by decide, by decide +kernel, by decide +kernel⟩, fun _ => rfl⟩, rfl, _, rfl⟩
  intro cls
  cases cls <;> decide +kernel

theorem witness_listen_only :
    (let s := { up 0 with cfg := { (up 0).cfg with ownCall := none }, pending := [.rawLevelChange .dis false] }
     s.listenOnly ∧ s.cfg.ownCall = none ∧ ∃ t, step s = .next t) :=
  ⟨⟨nofun, fun _ => ⟨rfl, rfl, rfl, rfl⟩⟩, rfl, _, rfl⟩

theorem witness_codewords :
    ((codeword 125).length = 9 ∧ onesOf (codeword 125) = 5) ∧
    ([true, true, true, true, true, true, false, false, false].length = 9 ∧
      onesOf [true, true, true, true, true, true, false, false, false] ≠ 5) ∧
    ((up 0).key = false) ∧
    (let s := sending 4859 dcancelOut
     s.enc.inFlight = some dcancelOut ∧ dcancelOut.slots[53]? = some 100 ∧
     dcancelOut.start + 90 * 53 + 10 * 8 ≤ s.now ∧ s.now < dcancelOut.start + 90 * 53 + 10 * 8 + 10) := by
  decide +kernel

end Sys2Proof.Tests
end

section
/-! PROOFS. The text store at power-on (R48): what R37's counts are when no chain exists, and what state POWER_ON
gives. -/

namespace Sys2Proof.Machine

/-! ### A text store with no chain -/

@[simp] theorem TextStore.quotaCount_of_no_chain {t : TextStore} (h : t.chains = []) (cls : StoreClass) :
    t.quotaCount cls = 0 := by
  simp [TextStore.quotaCount, h]

@[simp] theorem TextStore.reserveCount_of_no_chain {t : TextStore} (h : t.chains = []) (cls : StoreClass) :
    t.reserveCount cls = 0 := by
  simp [TextStore.reserveCount, h]

@[simp] theorem TextStore.reserveInUse_of_no_chain {t : TextStore} (h : t.chains = []) : t.reserveInUse = 0 := by
  simp [TextStore.reserveInUse, h]

@[simp] theorem TextStore.heldPages_of_no_chain {t : TextStore} (h : t.chains = []) : t.heldPages = 0 := by
  simp [TextStore.heldPages, h]

@[simp] theorem TextStore.freePages_of_no_chain {t : TextStore} (h : t.chains = []) : t.freePages = 512 := by
  simp [TextStore.freePages, TextStore.heldPages_of_no_chain h]

/-! ### The state that POWER_ON gives -/

@[simp] theorem TextStore.powerOn_chains : TextStore.powerOn.chains = [] := rfl

@[simp] theorem TextStore.powerOn_full_get (cls : StoreClass) : TextStore.powerOn.full.get cls = 0 := by
  cases cls <;> rfl

/-- POWER_ON has one outcome: the power-on state, with the commands that wait. -/
theorem eq_atPowerOn_of_exec_powerOn {straps : Byte} {dis cnl txinh cd : Bool} {s t : State}
    (h : exec (.powerOn straps dis cnl txinh cd) s = .next t) :
    t = { State.atPowerOn straps dis cnl txinh cd with pending := s.pending } :=
  (Host.Outcome.next.inj h).symm

/-- Settles O3: POWER_ON puts the store in its power-on value, where no chain exists, so every count of pages is that
of a store with no chain; the records that held text begin as empty lists. -/
theorem powerOnEmptiesTextStore : Obligations.PowerOnEmptiesTextStore := by
  intro straps dis cnl txinh cd s t h
  have ht := eq_atPowerOn_of_exec_powerOn h
  have hstore : t.store = TextStore.powerOn := by rw [ht]; rfl
  have hchains : t.store.chains = [] := by rw [hstore, TextStore.powerOn_chains]
  have hcounts (cls : StoreClass) :
      t.store.quotaCount cls = 0 ∧ t.store.reserveCount cls = 0 ∧ t.store.full.get cls = 0 :=
    ⟨TextStore.quotaCount_of_no_chain hchains cls, TextStore.reserveCount_of_no_chain hchains cls,
      by rw [hstore, TextStore.powerOn_full_get]⟩
  have hquota : t.store.quota = defaultQuotas ∧ t.store.replacedQuotas = false := by rw [hstore]; exact ⟨rfl, rfl⟩
  have hrecords : t.q.out = [] ∧ t.q.inc = [] ∧ t.bul.recs = [] ∧ t.tally.hauls = [] ∧ t.tally.rows = [] := by
    rw [ht]; exact ⟨rfl, rfl, rfl, rfl, rfl⟩
  exact ⟨hchains, TextStore.freePages_of_no_chain hchains, TextStore.reserveInUse_of_no_chain hchains, hcounts,
    hquota.1, hquota.2, hrecords⟩

end Sys2Proof.Machine
end

section
/-! PROOFS. CANCEL MESSAGE (R103): the record that the request names, and the answer of each row of R103's table. -/

namespace Sys2Proof.Machine

/-! ### The record named -/

/-- A number of one byte at the front of a request's bytes. -/
@[simp] theorem numAt_cons_zero_one (b : Byte) (rest : List Byte) : numAt (b :: rest) 0 1 = some b.toNat := by
  simp [numAt, beNat]

/-- The record found for a reference has that reference. -/
theorem State.ref_of_outRec {s : State} {ref : Nat} {x : OutRec} (h : s.outRec ref = some x) : x.ref = ref := by
  simpa using List.find?_some h

/-- CANCEL MESSAGE from any station reaches the message queues. -/
theorem exec_cancelMessage_of_takes {s : State} {r : Request} (h : s.takes r) :
    exec (.cancelMessage r) s = .next (s.reqCancelMessage r) :=
  State.taken_request h rfl State.reqCancelMessage

/-- The record that CANCEL MESSAGE names is that of the first byte's reference. -/
theorem State.cancelled_eq_outRec (s : State) {r : Request} {ref : Byte} {rest : List Byte}
    (hp : r.params = ref :: rest) : (numAt r.params 0 1).bind s.outRec = s.outRec ref.toNat := by
  rw [hp, numAt_cons_zero_one, Option.bind_some]

/-! ### The rows of R103's table -/

section
variable {s : State} {r : Request} {x : OutRec}

theorem State.reqCancelMessage_of_unknown (h : (numAt r.params 0 1).bind s.outRec = none) :
    s.reqCancelMessage r = s.result clsCancelMessage r .invalid [] := by
  simp only [State.reqCancelMessage, h, State.invalid]

/-- A report is refused in any state. -/
theorem State.reqCancelMessage_of_report (h : (numAt r.params 0 1).bind s.outRec = some x) (hcls : x.cls = 1) :
    s.reqCancelMessage r = s.result clsCancelMessage r .notAllowed [] := by
  simp only [State.reqCancelMessage, h, if_pos hcls]

theorem State.reqCancelMessage_of_intake (h : (numAt r.params 0 1).bind s.outRec = some x) (hcls : x.cls ≠ 1)
    (hst : x.state = .intake) : s.reqCancelMessage r = s.result clsCancelMessage r .state [] := by
  simp only [State.reqCancelMessage, h, if_neg hcls, hst]

theorem State.reqCancelMessage_of_active (h : (numAt r.params 0 1).bind s.outRec = some x) (hcls : x.cls ≠ 1)
    (hst : x.state = .active) : s.reqCancelMessage r = s.result clsCancelMessage r .busy [] := by
  simp only [State.reqCancelMessage, h, if_neg hcls, hst]

theorem State.reqCancelMessage_of_queued (h : (numAt r.params 0 1).bind s.outRec = some x) (hcls : x.cls ≠ 1)
    (hst : x.state = .queued) :
    s.reqCancelMessage r = (s.removeOut x.ref).result clsCancelMessage r .done [] := by
  simp only [State.reqCancelMessage, h, if_neg hcls, hst]

end

/-- Settles O46: the request reaches the message queues, and each row of R103's table is the answer for the record
found. -/
theorem cancelMessageRemovesAQueuedRecord : Obligations.CancelMessageRemovesAQueuedRecord := by
  intro s r ref rest htakes hp
  rw [exec_cancelMessage_of_takes htakes]
  have hnamed := s.cancelled_eq_outRec hp
  refine ⟨fun hnone => ?unknown, fun x hx => ⟨fun hreport => ?report, fun hcls hst => ?intake,
    fun hcls hst => ?active, fun hcls hst => ?queued⟩⟩
  case unknown => exact congrArg _ (State.reqCancelMessage_of_unknown (hnamed.trans hnone))
  case report => exact congrArg _ (State.reqCancelMessage_of_report (hnamed.trans hx) hreport)
  case intake => exact congrArg _ (State.reqCancelMessage_of_intake (hnamed.trans hx) hcls hst)
  case active => exact congrArg _ (State.reqCancelMessage_of_active (hnamed.trans hx) hcls hst)
  case queued =>
    rw [State.reqCancelMessage_of_queued (hnamed.trans hx) hcls hst, State.ref_of_outRec hx]
    rfl

end Sys2Proof.Machine
end

section
/-! PROOFS. `State.Keeps s t`: what held of s under the laws of R8/R15/R26 (quality), R184 (ALARM), R37/R39/R46 (text
store) and R19 (listen-only) holds of t. One lemma for each function of the model that answers a state, so that the
invariants of the whole part are one walk over the functions and not one walk each.

The first theorem is elaborated with `Elab.async` off, which waits for the tests above this part: a theorem elaborated
while they are still being checked would take a thread more, whose stack counts, and the tests alone leave the compile
near its memory limit. For that limit's sake the costliest theorems of the parts below are elaborated so too, each in the
memory that the last one left, and what stands in one namespace is declared in one `namespace`. -/

namespace Sys2Proof.Machine

/-! ### The relation -/

/-- Nothing is in flight and nothing waits. -/
def Encoder.Empty (e : Encoder) : Prop := e.inFlight = none ∧ e.burst = none ∧ e.frame = none ∧ e.link = none

namespace State

/-- A part without an own call has nothing to transmit. -/
def Mute (s : State) : Prop := s.cfg.ownCall = none → s.enc.Empty

/-- The laws that hold of `s` hold of `t`. -/
structure Keeps (s t : State) : Prop where
  quality : s.qualityRight → t.qualityRight
  alarm : s.alarmRight → t.alarmRight
  store : s.store.lawful → t.store.lawful
  mute : s.Mute → t.Mute

end State

variable {s t u : State}

namespace State.Keeps

set_option Elab.async false in
theorem refl (s : State) : s.Keeps s := ⟨id, id, id, id⟩

theorem trans (h : s.Keeps t) (k : t.Keeps u) : s.Keeps u :=
  ⟨k.quality ∘ h.quality, k.alarm ∘ h.alarm, k.store ∘ h.store, k.mute ∘ h.mute⟩

/-- Blocks of which no law speaks. -/
theorem blocks (h : s.Keeps t) {now : Nat} {low : Bool} {gen : Generator} {link : LinkController}
    {q : Queues} {bul : Bulletins} {tally : CatchTally} {lines : LineUnit} {clock : Clock} {port : Port}
    {recd : Recorded} {pending : List Instr} :
    s.Keeps { t with now := now, resetLow := low, gen := gen, link := link, q := q, bul := bul, tally := tally,
                     lines := lines, clock := clock, port := port, recd := recd, pending := pending } :=
  h.trans ⟨id, id, id, id⟩

/-- The decoder but for the frame in progress and the accumulator. -/
theorem dec (h : s.Keeps t) {sync : SyncState} {window slotSyms : List Sym} {slotBlocked gapSeen : Bool}
    {strobeRef : Nat} {align lastBlock : Option Nat} {synced losses slips missed unknown : Nat}
    {phasing : Option Nat} {pair erasureRun missedRun idleRun : Nat} {part : List Sym} {f : Option Copy}
    {delay : List Copy} {marker : Option MarkerSearch} {unknownRun : Bool} :
    s.Keeps { t with dec := { t.dec with
      sync := sync, window := window, slotSyms := slotSyms, slotBlocked := slotBlocked, strobeRef := strobeRef,
      gapSeen := gapSeen, align := align, lastBlock := lastBlock, synced := synced, losses := losses, slips := slips,
      missed := missed, unknown := unknown,
      stream := { t.dec.stream with
        phasing := phasing, pair := pair, part := part, f := f, delay := delay, marker := marker,
        erasureRun := erasureRun, missedRun := missedRun, idleRun := idleRun, unknownRun := unknownRun } } } :=
  h.trans ⟨id, id, id, id⟩

/-- A decoder whose frame in progress is scored and whose accumulator lies in its range when that held before. -/
theorem decoder (h : s.Keeps t) {d : Decoder}
    (hf : s.qualityRight → t.dec.stream.frame.scored → d.stream.frame.scored)
    (ha : s.qualityRight → (∀ q, t.dec.acc = some q → qualityInRange q) → ∀ q, d.acc = some q → qualityInRange q) :
    s.Keeps { t with dec := d } where
  quality hq := ⟨hf hq (h.quality hq).1, ha hq (h.quality hq).2.1, (h.quality hq).2.2⟩
  alarm := h.alarm
  store := h.store
  mute := h.mute

/-- The net monitor but for the table. -/
theorem nm (h : s.Keeps t) {busy clear : Bool} {clearStart : Option Nat} {half : Option CallHalf}
    {overheard : Option Overheard} {rejected replaced unattributed : Nat} :
    s.Keeps { t with nm := { t.nm with
      busy := busy, clear := clear, clearStart := clearStart, half := half, overheard := overheard,
      rejected := rejected, replaced := replaced, unattributed := unattributed } } :=
  h.trans ⟨id, id, id, id⟩

/-- The distress unit but for the list and ALARM. -/
theorem dis (h : s.Keeps t) {own : OwnState} {counter cancelCount bursts pulseAt unusable replaced notTracked
    expiries relaysSent : Nat} {serial nature alertTime burstAt cancelAt gapAt heldSince lastSilence repeatAt : Option Nat}
    {prevAck holdDone heldTold alarmOn : Bool} {queue : List Queued} :
    s.Keeps { t with dis := { t.dis with
      own := own, counter := counter, serial := serial, nature := nature, alertTime := alertTime, burstAt := burstAt,
      cancelAt := cancelAt, prevAck := prevAck, cancelCount := cancelCount, gapAt := gapAt, bursts := bursts,
      heldSince := heldSince, holdDone := holdDone, heldTold := heldTold, queue := queue, lastSilence := lastSilence,
      alarmOn := alarmOn, pulseAt := pulseAt, repeatAt := repeatAt, unusable := unusable, replaced := replaced,
      notTracked := notTracked, expiries := expiries, relaysSent := relaysSent } } :=
  h.trans ⟨id, id, id, id⟩

/-- An encoder that is empty when the one before was. -/
theorem enc (h : s.Keeps t) {e : Encoder} (he : t.enc.Empty → e.Empty) : s.Keeps { t with enc := e } :=
  h.trans ⟨id, id, id, fun hm hc => he (hm hc)⟩

/-- With an own call any encoder will do. -/
theorem encOwn (h : s.Keeps t) {e : Encoder} (hc : t.cfg.ownCall.isSome = true) :
    s.Keeps { t with enc := e } :=
  h.trans ⟨id, id, id, fun _ hn => by simp_all⟩

/-- An encoder that stays empty in a part without an own call. -/
theorem encMute (h : s.Keeps t) {e : Encoder} (he : t.Mute → t.cfg.ownCall = none → e.Empty) :
    s.Keeps { t with enc := e } :=
  h.trans ⟨id, id, id, fun hm hc => he hm hc⟩

/-- A table whose accumulators lie in their range when those before did. -/
theorem table (h : s.Keeps t) {tbl : List Station}
    (ht : s.qualityRight → (∀ e ∈ t.nm.table, qualityInRange e.q) → ∀ e ∈ tbl, qualityInRange e.q) :
    s.Keeps { t with nm := { t.nm with table := tbl } } where
  quality hq := ⟨(h.quality hq).1, (h.quality hq).2.1, ht hq (h.quality hq).2.2⟩
  alarm := h.alarm
  store := h.store
  mute := h.mute

/-- A list for which ALARM calls for the same. -/
theorem list (h : s.Keeps t) {l : List DistressEntry} (hl : alarmOf l = alarmOf t.dis.list) :
    s.Keeps { t with dis := { t.dis with list := l } } :=
  h.trans ⟨id, fun hr => by simpa [State.alarmRight, hl] using hr, id, id⟩

/-- A store that is lawful when the one before was. -/
theorem textStore (h : s.Keeps t) {st : TextStore} (hs : t.store.lawful → st.lawful) :
    s.Keeps { t with store := st } :=
  h.trans ⟨id, id, hs, id⟩

theorem ite (h : s.Keeps t) (k : s.Keeps u) (c : Prop) [Decidable c] :
    s.Keeps (if c then t else u) := by
  split
  · exact h
  · exact k

end State.Keeps

/-! ### Quality arithmetic (R25, R26, R31) -/

theorem add_sixteenth_le {q : Nat} (h : 15 ≤ q) : 15 + q / 16 ≤ q := by
  rcases Nat.eq_zero_or_pos (q / 16) with h0 | h0
  · exact h0 ▸ h
  · calc 15 + q / 16 ≤ 15 * (q / 16) + q / 16 := Nat.add_le_add_right (Nat.le_mul_of_pos_right 15 h0) _
      _ = q / 16 * 16 := by rw [Nat.mul_comm, ← Nat.mul_succ]
      _ ≤ q := Nat.div_mul_le_self q 16

theorem le_add_sixteenth {q : Nat} (h : q ≤ 4096) : q ≤ 3840 + q / 16 := by
  rcases Nat.eq_or_lt_of_le (Nat.div_le_of_le_mul h : q / 16 ≤ 256) with he | hl
  · rw [he]; exact h
  · have hq : q < 15 * (q / 16) + q / 16 + 16 := by
      rw [← Nat.succ_mul]
      exact Nat.lt_mul_div_succ q (Nat.succ_pos 15)
    calc q ≤ 15 * (q / 16) + q / 16 + 15 := Nat.le_of_lt_succ hq
      _ = 15 * (q / 16 + 1) + q / 16 := Nat.add_right_comm _ _ _
      _ ≤ 3840 + q / 16 := Nat.add_le_add_right (Nat.mul_le_mul_left 15 hl) _

theorem feedQ_le {q v : Nat} (h : q ≤ 4096) (hv : v ≤ 16) : feedQ q v ≤ 4096 :=
  Nat.sub_le_iff_le_add.2 ((Nat.add_le_add (le_add_sixteenth h) (Nat.mul_le_mul_left 16 hv)).trans_eq
    (Nat.add_right_comm 3840 (q / 16) 256))

theorem le_feedQ {q : Nat} (v : Nat) (h : 15 ≤ q) : 15 + 16 * v ≤ feedQ q v :=
  Nat.le_sub_of_add_le ((Nat.add_right_comm 15 (16 * v) (q / 16)).trans_le
    (Nat.add_le_add_right (add_sixteenth_le h) _))

/-- A sample keeps an accumulator in its range. -/
theorem feedQ_inRange {q v : Nat} (hq : qualityInRange q) (hv : v ≤ 16) : qualityInRange (feedQ q v) :=
  ⟨(Nat.le_add_right 15 _).trans (le_feedQ v hq.1), feedQ_le hq.2 hv⟩

theorem startQ_inRange : qualityInRange startQ := by unfold qualityInRange startQ; simp

/-- The sample of a frame with scores of 16 at most. -/
theorem frameSample_le {n sum : Nat} (h : 1 ≤ n ∧ sum ≤ 16 * n) : frameSample n sum ≤ 16 := by
  obtain ⟨h1, h2⟩ := h
  exact Nat.lt_succ_iff.mp ((Nat.div_lt_iff_lt_mul h1).mpr ((Nat.add_lt_add_of_le_of_lt h2
    (Nat.div_lt_self h1 (Nat.lt_succ_self 1))).trans_eq (Nat.succ_mul 16 n).symm))

/-- A decision scores 16 at most (R8). -/
theorem decideChar_le (f : Copy) (c : Option Copy) : (decideChar f c).2 ≤ 16 := by
  cases c with
  | none => cases hf : f.valid <;> simp [decideChar, hf]
  | some c =>
    cases hf : f.valid <;> cases hc : c.valid <;> simp only [decideChar, decideBoth, hf, hc] <;>
      (repeat' split) <;> exact Nat.le_of_ble_eq_true rfl

/-! ### The text store (R37 to R46) -/

/-- The chain found for a record is one of the store's, of that record. -/
theorem TextStore.chain_mem {st : TextStore} {key : RecKey} {c : Chain} (h : st.chain key = some c) :
    c ∈ st.chains ∧ c.key = key :=
  ⟨List.mem_of_find?_eq_some h, by simpa using List.find?_some h⟩

/-- The pages a chain has charged to the quota of a class. -/
def Chain.quotaPagesIn (cls : StoreClass) (c : Chain) : Nat := if c.cls = cls then c.quotaPages else 0

/-- The quota count of a class, as a sum over all chains. -/
theorem TextStore.quotaCount_eq_sum (st : TextStore) (cls : StoreClass) :
    st.quotaCount cls = (st.chains.map (Chain.quotaPagesIn cls)).sum := by
  unfold TextStore.quotaCount
  induction st.chains with
  | nil => rfl
  | cons c l ih => by_cases h : c.cls = cls <;> simp [h, ih, Chain.quotaPagesIn]

/-- Changing the one chain of a record changes a sum over the chains by that chain's figure. -/
theorem sum_map_onKey {l : List Chain} {c : Chain} (hn : (l.map (·.key)).Nodup) (hc : c ∈ l) (f : Chain → Chain)
    (g : Chain → Nat) :
    ((l.map fun x => if x.key = c.key then f x else x).map g).sum + g c = (l.map g).sum + g (f c) := by
  induction l with
  | nil => cases hc
  | cons x l ih =>
    obtain ⟨hx, hn'⟩ := List.nodup_cons.mp hn
    rcases List.mem_cons.mp hc with rfl | hc'
    · have hsame : (l.map fun x => if x.key = c.key then f x else x) = l := by
        refine (List.map_congr_left fun y hy => ?_).trans (List.map_id l)
        have hyk : y.key ≠ c.key := fun e => hx (List.mem_map.mpr ⟨y, hy, e⟩)
        simp [hyk]
      simp only [List.map_cons, List.sum_cons, if_true, hsame]
      rw [Nat.add_right_comm, Nat.add_comm (g (f _)), Nat.add_right_comm]
    · have hxk : x.key ≠ c.key := fun e => hx (List.mem_map.mpr ⟨c, hc', e.symm⟩)
      have := ih hn' hc'
      simp only [List.map_cons, List.sum_cons, if_neg hxk]
      rw [Nat.add_assoc, this, Nat.add_assoc]

/-- A change of chains that takes no page: every chain stays its record's, in its class and with its mark, and holds no
page more. -/
structure Chain.Shrinks (f : Chain → Chain) : Prop where
  key (c : Chain) : (f c).key = c.key
  cls (c : Chain) : (f c).cls = c.cls
  distress (c : Chain) : (f c).distress = c.distress
  charges (c : Chain) : (f c).charges.Sublist c.charges

namespace Chain.Shrinks

theorem quotaPages_le {f : Chain → Chain} (h : Chain.Shrinks f) (c : Chain) :
    (f c).quotaPages ≤ c.quotaPages := ((h.charges c).filter _).length_le

theorem reservePages_le {f : Chain → Chain} (h : Chain.Shrinks f) (c : Chain) :
    (f c).reservePages ≤ c.reservePages := ((h.charges c).filter _).length_le

end Chain.Shrinks

namespace TextStore

/-- A change of one record's chain that takes no page keeps the laws. -/
theorem lawful_onChain {st : TextStore} (h : st.lawful) (key : RecKey) {f : Chain → Chain}
    (hf : Chain.Shrinks f) : (st.onChain key f).lawful := by
  obtain ⟨hn, hcls, hquota, htotal, hres, hmark⟩ := h
  have hkeys : (st.onChain key f).chains.map (·.key) = st.chains.map (·.key) := by
    unfold TextStore.onChain
    simp only [List.map_map]
    refine List.map_congr_left fun c _ => ?_
    by_cases hk : c.key = key <;> simp [hk, hf.key]
  refine ⟨hkeys ▸ hn, ?_, fun cls => ?_, htotal, ?_, ?_⟩
  · unfold TextStore.onChain
    simp only [List.mem_map]
    rintro _ ⟨c, hc, rfl⟩
    split
    · rw [hf.key, hf.cls, hcls c hc]
    · exact hcls c hc
  · refine le_trans ?_ (hquota cls)
    rw [TextStore.quotaCount_eq_sum, TextStore.quotaCount_eq_sum]
    unfold TextStore.onChain
    simp only [List.map_map]
    refine List.sum_le_sum fun c _ => ?_
    by_cases hk : c.key = key
    · have := hf.quotaPages_le c
      by_cases hc : c.cls = cls <;> simp [hk, Chain.quotaPagesIn, hf.cls, hc, this]
    · simp [hk]
  · refine le_trans ?_ hres
    simp only [TextStore.reserveInUse, TextStore.onChain, List.map_map]
    refine List.sum_le_sum fun c _ => ?_
    by_cases hk : c.key = key <;> simp [hk, hf.reservePages_le]
  · unfold TextStore.onChain
    simp only [List.mem_map]
    rintro _ ⟨c, hc, rfl⟩
    split
    · rw [hf.distress]
      exact fun ht => hmark c hc ((hf.charges c).subset ht)
    · exact hmark c hc

/-- Writing takes no page. -/
theorem lawful_write {st : TextStore} (h : st.lawful) (key : RecKey) (codes : List Nat) :
    (st.write key codes).lawful :=
  TextStore.lawful_onChain h key ⟨fun _ => rfl, fun _ => rfl, fun _ => rfl, fun _ => List.Sublist.refl _⟩

/-- Setting a count lower takes no page. -/
theorem lawful_lower {st : TextStore} (h : st.lawful) (key : RecKey) (n : Nat) : (st.lower key n).lawful :=
  TextStore.lawful_onChain h key ⟨fun _ => rfl, fun _ => rfl, fun _ => rfl, fun _ => List.Sublist.refl _⟩

/-- Cutting back takes no page. -/
theorem lawful_cutBack {st : TextStore} (h : st.lawful) (key : RecKey) (k : Nat) :
    (st.cutBack key k).lawful := by
  unfold TextStore.cutBack
  split
  · exact TextStore.lawful_onChain h key ⟨fun _ => rfl, fun _ => rfl, fun _ => rfl, fun c => List.take_sublist k _⟩
  · exact h

/-- Freeing a record's chain keeps the laws. -/
theorem lawful_free {st : TextStore} (h : st.lawful) (key : RecKey) : (st.free key).lawful := by
  obtain ⟨hn, hcls, hquota, htotal, hres, hmark⟩ := h
  have hsub : (st.free key).chains.Sublist st.chains := List.filter_sublist
  refine ⟨(hsub.map _).nodup hn, fun c hc => hcls c (hsub.subset hc), fun cls => ?_, htotal, ?_,
    fun c hc => hmark c (hsub.subset hc)⟩
  · refine le_trans ?_ (hquota cls)
    rw [TextStore.quotaCount_eq_sum, TextStore.quotaCount_eq_sum]
    exact (hsub.map _).sum_le_sum (fun _ _ => Nat.zero_le _)
  · exact le_trans ((hsub.map _).sum_le_sum (fun _ _ => Nat.zero_le _)) hres

/-- The charges of pages granted: in the quota's room, and the rest in the reserve's. -/
theorem charges_counts (st : TextStore) (cls : StoreClass) (n : Nat) :
    ((st.charges cls n).filter (!·)).length = min n (st.quotaRoom cls) ∧
      ((st.charges cls n).filter id).length = n - min n (st.quotaRoom cls) := by
  unfold TextStore.charges
  simp

/-- The pages of a take that is granted stay in their rooms, and take the reserve's only with the mark (R40). -/
theorem grants_rooms {st : TextStore} {cls : StoreClass} {distress : Bool} {n : Nat}
    (hg : st.grants cls distress n = true) :
    n - min n (st.quotaRoom cls) ≤ st.reserveRoom distress := by
  have : n ≤ st.quotaRoom cls + st.reserveRoom distress := by simpa [TextStore.grants] using hg
  rcases Nat.le_total n (st.quotaRoom cls) with h | h
  · rw [Nat.min_eq_left h, Nat.sub_self]
    exact Nat.zero_le _
  · rw [Nat.min_eq_right h]
    exact Nat.sub_le_iff_le_add'.2 this

/-- A page charged to the reserve has the mark. -/
theorem distress_of_reserve_charge {st : TextStore} {cls : StoreClass} {distress : Bool} {n : Nat}
    (hg : st.grants cls distress n = true) (ht : true ∈ st.charges cls n) : distress = true := by
  have hroom := TextStore.grants_rooms hg
  have hpos : n - min n (st.quotaRoom cls) ≠ 0 := by
    rcases List.mem_append.mp ht with h | h
    · simp at h
    · exact (List.mem_replicate.mp h).1
  by_contra hd
  unfold TextStore.reserveRoom at hroom
  simp only [hd] at hroom
  exact hpos (by simpa using hroom)

/-- A record's first chain joins the store within the rooms of R40. -/
theorem lawful_newChain {st : TextStore} (h : st.lawful) {x : Chain} (hfresh : ∀ c ∈ st.chains, c.key ≠ x.key)
    (hx : x.cls = x.key.cls) (hq : ∀ cls, st.quotaCount cls + x.quotaPagesIn cls ≤ st.quota.get cls)
    (hr : st.reserveInUse + x.reservePages ≤ 16) (hd : true ∈ x.charges → x.distress = true) :
    TextStore.lawful { st with chains := st.chains ++ [x] } := by
  obtain ⟨hn, hcls, hquota, htotal, hres, hmark⟩ := h
  refine ⟨?_, ?_, fun cls => ?_, htotal, ?_, ?_⟩
  · simp only [List.map_append, List.map_cons, List.map_nil]
    exact List.nodup_append.mpr ⟨hn, by simp, by simpa using hfresh⟩
  · intro c hc
    rcases List.mem_append.mp hc with hc | hc
    · exact hcls c hc
    · exact List.mem_singleton.mp hc ▸ hx
  · have := hq cls
    rw [TextStore.quotaCount_eq_sum] at this ⊢
    simpa using this
  · simpa [TextStore.reserveInUse] using hr
  · intro c hc
    rcases List.mem_append.mp hc with hc | hc
    · exact hmark c hc
    · exact List.mem_singleton.mp hc ▸ hd

end TextStore

/-- A chain with more pages. -/
def Chain.extend (new : List Bool) (c : Chain) : Chain := { c with charges := c.charges ++ new }

/-- A total changes by what its one part that changed does. -/
theorem add_of_shift {a b x y k : Nat} (h : a + x = b + y) (hy : y = x + k) : a = b + k := by
  rw [hy, ← Nat.add_assoc, Nat.add_right_comm] at h
  exact Nat.add_right_cancel h

namespace TextStore

/-- A record's chain grows within the rooms of R40. -/
theorem lawful_extend {st : TextStore} (h : st.lawful) {x : Chain} (hx : x ∈ st.chains) {new : List Bool}
    (hq : ∀ cls, st.quotaCount cls + (if x.cls = cls then (new.filter (!·)).length else 0) ≤ st.quota.get cls)
    (hr : st.reserveInUse + (new.filter id).length ≤ 16) (hd : true ∈ new → x.distress = true) :
    (st.onChain x.key (Chain.extend new)).lawful := by
  obtain ⟨hn, hcls, hquota, htotal, hres, hmark⟩ := h
  have hkeys : (st.onChain x.key (Chain.extend new)).chains.map (·.key) = st.chains.map (·.key) := by
    unfold TextStore.onChain
    simp only [List.map_map]
    refine List.map_congr_left fun c _ => ?_
    simp only [Function.comp_apply]
    split <;> rfl
  refine ⟨hkeys ▸ hn, ?_, fun cls => ?_, htotal, ?_, ?_⟩
  · unfold TextStore.onChain
    simp only [List.mem_map]
    rintro _ ⟨c, hc, rfl⟩
    split <;> exact hcls c hc
  · have hsum := sum_map_onKey hn hx (Chain.extend new) (Chain.quotaPagesIn cls)
    have hone : (x.extend new).quotaPagesIn cls =
        x.quotaPagesIn cls + if x.cls = cls then (new.filter (!·)).length else 0 := by
      by_cases hc : x.cls = cls <;> simp [Chain.quotaPagesIn, Chain.extend, hc, Chain.quotaPages]
    have hroom := hq cls
    rw [TextStore.quotaCount_eq_sum] at hroom ⊢
    exact (add_of_shift hsum hone).trans_le hroom
  · have hsum := sum_map_onKey hn hx (Chain.extend new) Chain.reservePages
    have hone : (x.extend new).reservePages = x.reservePages + (new.filter id).length := by
      unfold Chain.extend Chain.reservePages
      simp
    exact (add_of_shift hsum hone).trans_le hr
  · unfold TextStore.onChain
    simp only [List.mem_map]
    rintro _ ⟨c, hc, rfl⟩
    split
    · rename_i hck
      intro ht
      rcases List.mem_append.mp ht with ht | ht
      · exact hmark c hc ht
      · exact List.inj_on_of_nodup_map hn hc hx hck ▸ hd ht
    · exact hmark c hc

/-- A take keeps the laws, when its class is that of its record (R40, R41). -/
theorem lawful_take {st : TextStore} (h : st.lawful) {key : RecKey} {cls : StoreClass}
    (hk : key.cls = cls) (distress : Bool) (n : Nat) : (st.take key cls distress n).2.lawful := by
  unfold TextStore.take
  split
  case isFalse => exact h
  case isTrue hg =>
    obtain ⟨hcq, hcr⟩ := st.charges_counts cls n
    have hroom := TextStore.grants_rooms hg
    have hquota (c : StoreClass) : st.quotaCount c +
        (if cls = c then ((st.charges cls n).filter (!·)).length else 0) ≤ st.quota.get c := by
      have hle := h.2.2.1 c
      split
      case isFalse => exact hle
      case isTrue e =>
        rw [← e, hcq]
        exact (Nat.add_le_add_left (Nat.min_le_right n (st.quotaRoom cls)) _).trans
          (Nat.add_sub_of_le (h.2.2.1 cls)).le
    have hreserve : st.reserveInUse + ((st.charges cls n).filter id).length ≤ 16 := by
      have hle := h.2.2.2.2.1
      have : st.reserveRoom (st.mark key distress) ≤ 16 - st.reserveInUse := by
        unfold TextStore.reserveRoom
        split
        · exact le_rfl
        · exact Nat.zero_le _
      exact (Nat.add_le_add_left ((hcr.le.trans hroom).trans this) _).trans (Nat.add_sub_of_le hle).le
    show (st.addPages key cls (st.mark key distress) (st.charges cls n)).lawful
    unfold TextStore.addPages
    cases hchain : st.chain key with
    | none =>
      exact TextStore.lawful_newChain h (by simpa [TextStore.chain] using hchain) hk.symm hquota hreserve
        (TextStore.distress_of_reserve_charge hg)
    | some x =>
      obtain ⟨hx, rfl⟩ := TextStore.chain_mem hchain
      have hxm : st.mark x.key distress = x.distress := by unfold TextStore.mark; simp [hchain]
      exact TextStore.lawful_extend h hx (((h.2.1 x hx).trans hk).symm ▸ hquota) hreserve
        (hxm ▸ TextStore.distress_of_reserve_charge hg)

/-- CONFIG CLOSED puts a valid set into force, or the defaults, under which the counts stood (R46). -/
theorem lawful_judgeQuotas {st : TextStore} (h : st.lawful) (hd : st.quota = defaultQuotas)
    (q : Option PerClass) : (st.judgeQuotas q).lawful := by
  obtain ⟨hn, hcls, hquota, htotal, hres, hmark⟩ := h
  unfold TextStore.judgeQuotas
  split
  · exact ⟨hn, hcls, hquota, htotal, hres, hmark⟩
  · split
    · rename_i q hv
      unfold TextStore.validQuotas at hv
      simp only [List.all_cons, List.all_nil, Bool.and_eq_true, decide_eq_true_eq, beq_iff_eq] at hv
      refine ⟨hn, hcls, fun cls => ?_, hv.2, hres, hmark⟩
      cases cls
      · exact hv.1.1.2
      · exact hv.1.2.1.2
      · exact hv.1.2.2.1.2
    · exact ⟨hn, hcls, hd ▸ hquota, rfl, hres, hmark⟩

end TextStore

end Sys2Proof.Machine
end

section
/-! PROOFS. `State.Keeps` through the net monitor, the bulletin receiver, the distress unit, the message queues and the
text store's records: what each of their functions does to the laws. -/

namespace Sys2Proof.Machine

variable {s t u : State}

/-! ### The port and the shared operations -/

namespace State.Keeps

theorem notice (h : s.Keeps t) (code : Nat) (content : List Field) : s.Keeps (t.notice code content) :=
  h.blocks

theorem result (h : s.Keeps t) (cls : Nat) (r : Request) (code : ResultCode) (content : List Field) :
    s.Keeps (t.result cls r code content) := h.blocks

/-! ### The net monitor's table (R52 to R63) -/

theorem onStation (h : s.Keeps t) (call : Nat) {f : Station → Station} (hf : ∀ e, (f e).q = e.q) :
    s.Keeps (t.onStation call f) := by
  refine h.table fun _ ht e he => ?_
  obtain ⟨x, hx, rfl⟩ := List.mem_map.mp he
  split
  · rw [hf]
    exact ht x hx
  · exact ht x hx

theorem onTable (h : s.Keeps t) {f : Station → Station} (hf : ∀ e, (f e).q = e.q) :
    s.Keeps (t.onTable f) := by
  refine h.table fun _ ht e he => ?_
  obtain ⟨x, hx, rfl⟩ := List.mem_map.mp he
  rw [hf]
  exact ht x hx

end State.Keeps

/-- Entering a call keeps the accumulators in range: a new one stands at 2048 (R53). -/
theorem NetMonitor.enter_inRange {n : NetMonitor} (hn : ∀ e ∈ n.table, qualityInRange e.q) (call now : Nat) :
    ∀ e ∈ (n.enter call now).table, qualityInRange e.q := by
  have hfresh : qualityInRange (Station.fresh call now).q := startQ_inRange
  unfold NetMonitor.enter
  split
  · intro e he
    rcases List.mem_append.mp he with he | he
    · exact hn e he
    · exact List.mem_singleton.mp he ▸ hfresh
  · split
    · intro e he
      rcases List.mem_append.mp he with he | he
      · exact hn e (List.mem_of_mem_filter he)
      · exact List.mem_singleton.mp he ▸ hfresh
    · exact hn

namespace State.Keeps

theorem recordCall (h : s.Keeps t) (call : Nat) : s.Keeps (t.recordCall call).2 := by
  unfold State.recordCall
  split
  · split
    · exact h
    · exact h.trans ⟨fun hq => ⟨hq.1, hq.2.1, NetMonitor.enter_inRange hq.2.2 call t.now⟩, id, id, id⟩
  · exact h.nm

theorem rejectCall (h : s.Keeps t) : s.Keeps t.rejectCall := h.nm

theorem hear (h : s.Keeps t) (call : Nat) : s.Keeps (t.hear call) := h.onStation call fun _ => rfl

theorem feedStation (h : s.Keeps t) (call : Nat) {v : Nat} (hv : s.qualityRight → v ≤ 16) :
    s.Keeps (t.feedStation call v) := by
  refine h.table fun hs ht e he => ?_
  obtain ⟨x, hx, rfl⟩ := List.mem_map.mp he
  split
  · exact feedQ_inRange (ht x hx) (hv hs)
  · exact ht x hx

theorem markOverheard (h : s.Keeps t) (call : Nat) (st : StationState) (partner : Nat) :
    s.Keeps (t.markOverheard call st partner) :=
  h.onStation call fun e => by (repeat' split) <;> rfl

theorem quietOverheard (h : s.Keeps t) (call : Nat) : s.Keeps (t.quietOverheard call) :=
  h.onStation call fun e => by split <;> rfl

theorem namePeer (h : s.Keeps t) (call : Nat) : s.Keeps (t.namePeer call) := by
  unfold State.namePeer
  dsimp only
  split
  · exact (h.recordCall call).onStation call fun _ => rfl
  · exact h.recordCall call

theorem peerInSession (h : s.Keeps t) : s.Keeps t.peerInSession :=
  h.onTable fun e => by split <;> rfl

theorem confirmPeer (h : s.Keeps t) : s.Keeps t.confirmPeer :=
  h.onTable fun e => by split <;> rfl

theorem releasePeer (h : s.Keeps t) : s.Keeps t.releasePeer :=
  h.onTable fun e => by dsimp only; (repeat' split) <;> rfl

theorem pinCall (h : s.Keeps t) (call : Nat) (f : Pins → Pins) : s.Keeps (t.pinCall call f) := by
  unfold State.pinCall
  dsimp only
  split
  · exact (h.recordCall call).onStation call fun _ => rfl
  · exact h.recordCall call

theorem markDistress (h : s.Keeps t) (call : Nat) : s.Keeps (t.markDistress call) := by
  unfold State.markDistress
  dsimp only
  split
  · exact (h.recordCall call).onStation call fun _ => rfl
  · exact h.recordCall call

theorem unmarkDistress (h : s.Keeps t) (call : Nat) : s.Keeps (t.unmarkDistress call) :=
  h.onStation call fun e => by dsimp only; (repeat' split) <;> rfl

/-! ### The link controller outside a session (R68 to R71, R86) -/

theorem enterBackoff (h : s.Keeps t) : s.Keeps t.enterBackoff := h.blocks

theorem consider (h : s.Keeps t) : s.Keeps t.consider := by
  unfold State.consider
  split
  · split
    · exact State.Keeps.ite h.blocks h.blocks _
    · exact h
  · exact h

theorem enterIdle (h : s.Keeps t) : s.Keeps t.enterIdle := h.blocks

theorem restrictAttempt (h : s.Keeps t) : s.Keeps t.restrictAttempt := by
  unfold State.restrictAttempt
  split
  · exact State.Keeps.ite h.enterIdle.consider h _
  · exact h

theorem channelClear (h : s.Keeps t) : s.Keeps t.channelClear := State.Keeps.ite h.enterBackoff h _

theorem channelNotClear (h : s.Keeps t) : s.Keeps t.channelNotClear := State.Keeps.ite h.blocks h _

theorem demandBreak (h : s.Keeps t) (reason : BreakReason) : s.Keeps (t.demandBreak reason) :=
  State.Keeps.ite h.blocks h _

theorem judgeBusy (h : s.Keeps t) : s.Keeps t.judgeBusy :=
  State.Keeps.ite h (State.Keeps.ite (State.Keeps.channelNotClear h.nm) h.nm _) _

theorem silenceEvent (h : s.Keeps t) : s.Keeps t.silenceEvent :=
  have h' : s.Keeps { t with dis := { t.dis with lastSilence := some t.now } } := h.dis
  State.Keeps.ite h' (h'.demandBreak .silence).restrictAttempt _

/-! ### The message queues and the text store -/

theorem onOut (h : s.Keeps t) (ref : Nat) (f : OutRec → OutRec) : s.Keeps (t.onOut ref f) := h.blocks

theorem onInc (h : s.Keeps t) (ref : Nat) (f : IncRec → IncRec) : s.Keeps (t.onInc ref f) := h.blocks

/-- Pages taken for a record in its class. -/
theorem take (h : s.Keeps t) {key : RecKey} {cls : StoreClass} {distress : Bool} {n : Nat} {a : TakeAnswer}
    {st : TextStore} (hst : t.store.take key cls distress n = (a, st)) (hk : key.cls = cls) :
    s.Keeps { t with store := st } :=
  h.textStore fun hl => by
    have := TextStore.lawful_take hl hk distress n
    rwa [hst] at this

theorem write (h : s.Keeps t) (key : RecKey) (codes : List Nat) :
    s.Keeps (t.onStore fun st => st.write key codes) :=
  h.textStore fun hl => TextStore.lawful_write hl key codes

theorem free (h : s.Keeps t) (key : RecKey) : s.Keeps { t with store := t.store.free key } :=
  h.textStore fun hl => TextStore.lawful_free hl key

theorem createOut (h : s.Keeps t) (dest cls length : Nat) (serial : Option Nat) (st : OutState) :
    s.Keeps (t.createOut dest cls length serial st).2 := by
  unfold State.createOut
  dsimp only
  split
  · rename_i heq
    exact (h.take heq rfl).blocks
  · rename_i heq
    exact h.take heq rfl

theorem removeOut (h : s.Keeps t) (ref : Nat) : s.Keeps (t.removeOut ref) := (h.free _).blocks

theorem queueRecord (h : s.Keeps t) (ref : Nat) : s.Keeps (t.queueRecord ref) := (h.onOut ref _).consider

theorem chargeFailure (h : s.Keeps t) (ref : Nat) : s.Keeps (t.chargeFailure ref) := by
  unfold State.chargeFailure
  split
  · exact State.Keeps.ite (h.onOut ref _) (State.Keeps.ite (h.onOut ref _) (State.Keeps.ite (h.onOut ref _)
      ((h.notice 12 _).removeOut ref) _) _) _
  · exact h

theorem removeInc (h : s.Keeps t) (ref : Nat) : s.Keeps (t.removeInc ref) := (h.free _).blocks

theorem discardPartial (h : s.Keeps t) (r : IncRec) (cause : Nat) : s.Keeps (t.discardPartial r cause) :=
  (h.notice 14 _).removeInc r.ref

theorem partAll (h : s.Keeps t) : s.Keeps t.partAll := h.blocks

theorem discardAll (l : List IncRec) : ∀ {t : State}, s.Keeps t →
    s.Keeps (l.foldl (fun t r => t.discardPartial r 0) t) := by
  induction l with
  | nil => exact fun h => h
  | cons r l ih => exact fun h => ih (h.discardPartial r 0)

theorem replacePartial (h : s.Keeps t) (origin : Nat) (number : Option Nat) :
    s.Keeps (t.replacePartial origin number) := by
  unfold State.replacePartial
  split
  · exact State.Keeps.discardAll _ h
  · exact h

theorem newIncoming (h : s.Keeps t) (origin : Nat) (number : Option Nat) (cls : Nat) :
    s.Keeps (t.newIncoming origin number cls).2 := by
  unfold State.newIncoming
  split
  · exact h
  · exact h.blocks

theorem openIncoming (h : s.Keeps t) (origin : Nat) (number : Option Nat) (cls : Nat) :
    s.Keeps (t.openIncoming origin number cls).2 :=
  (h.partAll.replacePartial origin number).newIncoming origin number cls

theorem incData (h : s.Keeps t) (r : IncRec) (codes : List Nat) : s.Keeps (t.incData r codes).2 := by
  unfold State.incData
  dsimp only
  split
  · split
    · rename_i heq
      exact ((h.take heq rfl).write _ _).onInc _ _
    · rename_i heq
      exact h.take heq rfl
  · exact (h.write _ _).onInc _ _

theorem incEnd (h : s.Keeps t) (r : IncRec) : s.Keeps (t.incEnd r) := h.blocks

theorem reopen (h : s.Keeps t) (r : IncRec) : s.Keeps (t.reopen r) := h.partAll.onInc _ _

theorem incReadUnfinished (h : s.Keeps t) (ref : Nat) : s.Keeps (t.incReadUnfinished ref) := by
  unfold State.incReadUnfinished
  split
  · exact State.Keeps.ite (State.Keeps.ite ((h.onInc ref _).discardPartial _ 1)
      (State.Keeps.ite ((h.onInc ref _).discardPartial _ 0) (h.onInc ref _) _) _) (h.onInc ref _) _
  · exact h

theorem chargeEach (l : List OutRec) : ∀ {t : State}, s.Keeps t →
    s.Keeps (l.foldl (fun t r => t.chargeFailure r.ref) t) := by
  induction l with
  | nil => exact fun h => h
  | cons r l ih => exact fun h => ih (h.chargeFailure r.ref)

theorem chargeAll (h : s.Keeps t) (peer : Nat) : s.Keeps (t.chargeAll peer) := State.Keeps.chargeEach _ h

theorem endReport (h : s.Keeps t) (peer : Nat) (code : EndCode) (failed : Bool) :
    s.Keeps (t.endReport peer code failed) := by
  have h' : s.Keeps { t.partAll with q := { t.partAll.q with
      out := t.partAll.q.out.map fun r => r.atEnd peer code t.partAll.now } } := h.partAll.blocks
  unfold State.endReport
  refine State.Keeps.ite (h'.chargeAll peer) ?_ _
  split
  · exact h'.blocks
  · exact h'.blocks
  · exact h'.blocks
  · exact h'

/-! ### The bulletin receiver (chapter 7) -/

theorem onBul (h : s.Keeps t) (f : Bulletins → Bulletins) : s.Keeps (t.onBul f) := h.blocks

theorem onRec (h : s.Keeps t) (index : Nat) (f : BulRec → BulRec) : s.Keeps (t.onRec index f) := h.blocks

theorem removeBul (h : s.Keeps t) (index : Nat) : s.Keeps (t.removeBul index) := (h.free _).blocks

theorem refuseBul (h : s.Keeps t) (id : BulId) (cause : Nat) : s.Keeps (t.refuseBul id cause) := h.blocks

theorem storeBul (id : BulId) (fuel : Nat) : ∀ {t : State}, s.Keeps t →
    s.Keeps (Machine.storeBul id fuel t) := by
  induction fuel with
  | zero => exact fun h => h.refuseBul id 1
  | succ fuel ih =>
    intro t h
    unfold Machine.storeBul
    dsimp only
    split
    · split
      · exact ih (h.removeBul _)
      · exact h.refuseBul id 0
    · split
      · rename_i heq
        exact (h.take heq rfl).blocks
      · rename_i heq
        split
        · exact ih ((h.take heq rfl).removeBul _)
        · exact (h.take heq rfl).refuseBul id 1

theorem takeBulPage (r : BulRec) (fuel : Nat) : ∀ {t : State}, s.Keeps t →
    s.Keeps (Machine.takeBulPage r fuel t).2 := by
  induction fuel with
  | zero => exact fun h => h
  | succ fuel ih =>
    intro t h
    unfold Machine.takeBulPage
    dsimp only
    split
    · rename_i heq
      exact h.take heq rfl
    · rename_i heq
      split
      · exact ih ((h.take heq rfl).removeBul _)
      · exact h.take heq rfl

theorem truncateBul (h : s.Keeps t) (r : BulRec) : s.Keeps (t.truncateBul r) :=
  State.Keeps.ite h h.blocks _

theorem writeBul (h : s.Keeps t) (r : BulRec) (code : Nat) : s.Keeps (t.writeBul r code) :=
  (h.write _ _).onRec _ _

theorem bulBody (h : s.Keeps t) (code : Nat) : s.Keeps (t.bulBody code) := by
  unfold State.bulBody
  split
  · rename_i r _
    refine State.Keeps.ite h (State.Keeps.ite (h.writeBul r code) (State.Keeps.ite (h.truncateBul r) ?_ _) _) _
    have h' : s.Keeps (Machine.takeBulPage r 33 t).2 := State.Keeps.takeBulPage r 33 h
    split
    · rename_i heq
      exact (heq ▸ h').writeBul r code
    · rename_i heq
      exact (heq ▸ h').truncateBul r
  · exact h

theorem keepNotice (h : s.Keeps t) (r : BulRec) (replaced : Option Nat) :
    s.Keeps (t.keepNotice r replaced) := h.blocks

theorem keepBul (h : s.Keeps t) (r : BulRec) (replaced : Option Nat) : s.Keeps (t.keepBul r replaced) :=
  h.blocks

theorem endDecision (h : s.Keeps t) (r : BulRec) : s.Keeps (t.endDecision r) := by
  unfold State.endDecision
  dsimp only
  split
  · exact State.Keeps.ite (h.keepBul r none) (h.removeBul _) _
  · refine State.Keeps.ite (h.removeBul _) ?_ _
    split
    · exact State.Keeps.ite ((h.removeBul _).keepBul r _) (h.removeBul _) _
    · exact State.Keeps.ite (h.keepBul r none) (h.removeBul _) _

theorem heardUpdate (h : s.Keeps t) (r : BulRec) : s.Keeps (t.heardUpdate r) := by
  unfold State.heardUpdate
  refine State.Keeps.ite ?_ h _
  split <;> exact h.blocks

theorem closeBul (h : s.Keeps t) (ending : Ending) (pf : Nat) : s.Keeps (t.closeBul ending pf) := by
  unfold State.closeBul
  split
  · rename_i r _
    have h' := State.Keeps.ite h (h.truncateBul r) (ending == .whole)
    exact (((h'.onRec _ _).onBul _).endDecision _).heardUpdate _
  · exact h.blocks

theorem bulEnd (h : s.Keeps t) (n sum : Nat) : s.Keeps (t.bulEnd n sum) := h.closeBul _ _

theorem bulCut (h : s.Keeps t) (cause : CutCause) (n sum : Nat) : s.Keeps (t.bulCut cause n sum) := by
  unfold State.bulCut
  split <;> exact h.closeBul _ _

theorem bulBegin (h : s.Keeps t) (n sum : Nat) : s.Keeps (t.bulBegin n sum) :=
  State.Keeps.ite h.blocks h _

theorem lookUp (h : s.Keeps t) (id : BulId) : s.Keeps (t.lookUp id).2 := by
  unfold State.lookUp
  split
  · exact h
  · split
    · exact h.blocks
    · exact h

theorem restartBul (h : s.Keeps t) (r : BulRec) : s.Keeps (t.restartBul r) :=
  ((h.textStore fun hl => TextStore.lawful_lower (TextStore.lawful_cutBack hl _ 1) _ 0).onRec r.index _).onBul _

theorem judgeHeader (h : s.Keeps t) (header : Option BulId) : s.Keeps (t.judgeHeader header) := by
  unfold State.judgeHeader
  split
  · exact h.blocks
  · rename_i id
    refine State.Keeps.ite ?_ h.blocks _
    have h' : s.Keeps (State.lookUp (t.onBul fun b => b.offer id) id).2 := (h.onBul _).lookUp id
    split
    · rename_i heq
      exact (heq ▸ h').onBul _
    · rename_i heq
      rw [heq] at h'
      exact State.Keeps.storeBul id 40 h'

theorem bulHeader (h : s.Keeps t) (chars : List (Option Nat)) : s.Keeps (t.bulHeader chars) := by
  unfold State.bulHeader
  dsimp only
  split
  · exact State.Keeps.ite ((State.Keeps.restartBul h.blocks _).onBul _)
      ((State.Keeps.closeBul h.blocks _ _).judgeHeader _) _
  · exact State.Keeps.judgeHeader h.blocks _

theorem guardReport (h : s.Keeps t) (before : Bool) : s.Keeps (t.guardReport before) :=
  State.Keeps.ite h.restrictAttempt h _

theorem putWindow (h : s.Keeps t) (k : Nat) (w : LiveWindow) : s.Keeps (t.putWindow k w) := h.blocks

theorem missedJudgement (h : s.Keeps t) (k : Nat) (w : LiveWindow) : s.Keeps (t.missedJudgement k w) :=
  State.Keeps.ite h h.blocks _

theorem endGrace (h : s.Keeps t) (w : LiveWindow) : s.Keeps (t.endGrace w) :=
  State.Keeps.ite (h.demandBreak _) h _

theorem windowRun (h : s.Keeps t) (k : Nat) (w : LiveWindow) (st : WindowState) :
    s.Keeps (t.windowRun k w st) :=
  State.Keeps.ite h (((State.Keeps.ite ((h.endGrace w).missedJudgement k w) h _).putWindow k _).guardReport _) _

theorem windowStep (h : s.Keeps t) (k : Nat) (w : LiveWindow) (old : Nat) (forward : Bool) (delta : Nat) :
    s.Keeps (t.windowStep k w old forward delta) := by
  unfold State.windowStep
  split
  · exact State.Keeps.ite (State.Keeps.ite (((h.endGrace w).missedJudgement k w).putWindow k _)
      (State.Keeps.ite ((h.endGrace w).putWindow k _) h _) _) (h.putWindow k _) _
  · exact h

theorem stepFrom (old : Nat) (forward : Bool) (delta : Nat) (ws : List LiveWindow) :
    ∀ {t : State} (k : Nat), s.Keeps t → s.Keeps (Machine.stepFrom old forward delta k ws t) := by
  induction ws with
  | nil => exact fun _ h => h
  | cons w ws ih => exact fun k h => ih (k + 1) (h.windowStep k w old forward delta)

theorem stepWindows (h : s.Keeps t) (old : Nat) (forward : Bool) (delta : Nat) :
    s.Keeps (t.stepWindows old forward delta) :=
  (State.Keeps.stepFrom old forward delta _ 1 h).guardReport _

/-! ### The distress unit (chapter 9) -/

theorem placeFrame (h : s.Keeps t) (r : FrameReq) : s.Keeps (t.placeFrame r) := by
  unfold State.placeFrame
  dsimp only
  split
  · rename_i hc
    split <;> exact h.encOwn hc
  · exact h

theorem holdBurst (h : s.Keeps t) : s.Keeps t.holdBurst := State.Keeps.ite h.dis h _

theorem placeBurst (h : s.Keeps t) : s.Keeps t.placeBurst := by
  unfold State.placeBurst
  refine State.Keeps.ite h ?_ _
  dsimp only
  split
  · exact (State.Keeps.placeFrame h.dis _).holdBurst
  · exact h.dis

theorem burstCompleted (h : s.Keeps t) : s.Keeps t.burstCompleted :=
  State.Keeps.silenceEvent h.dis

theorem enterAlerting (h : s.Keeps t) (nature : Nat) : s.Keeps (t.enterAlerting nature) :=
  ((State.Keeps.demandBreak h.dis _).restrictAttempt).placeBurst

theorem raiseAgain (h : s.Keeps t) (nature : Option Nat) : s.Keeps (t.raiseAgain nature) := by
  unfold State.raiseAgain
  dsimp only
  split
  · split
    · exact h.dis
    · exact State.Keeps.placeBurst h.dis
  · exact State.Keeps.placeBurst h.dis
  · exact h.dis

theorem endPending (h : s.Keeps t) : s.Keeps t.endPending := h.dis

theorem raiseInForce (h : s.Keeps t) (nature : Option Nat) : s.Keeps (t.raiseInForce nature) :=
  State.Keeps.ite (h.endPending.raiseAgain nature) (h.raiseAgain nature) _

theorem disRaise (h : s.Keeps t) : s.Keeps t.disRaise := by
  unfold State.disRaise
  refine State.Keeps.ite h.blocks ?_ _
  split
  · exact h.enterAlerting 85
  · exact h.blocks
  · exact h.raiseInForce none

theorem enqueue (h : s.Keeps t) (x : Queued) : s.Keeps (t.enqueue x) :=
  State.Keeps.ite h h.dis _

theorem dequeue (h : s.Keeps t) (x : Queued) : s.Keeps (t.dequeue x) := h.dis

end State.Keeps

/-- A change of one entry that leaves what ALARM looks at. -/
theorem alarmOf_map {l : List DistressEntry} {f : DistressEntry → DistressEntry}
    (hf : ∀ e, (f e).bridgeAck = e.bridgeAck ∧ (f e).watch = e.watch) : alarmOf (l.map f) = alarmOf l := by
  unfold alarmOf
  simp [List.any_map, Function.comp_def, hf]

namespace State.Keeps

theorem onEntry (h : s.Keeps t) (origin : Nat) {f : DistressEntry → DistressEntry}
    (hf : ∀ e, (f e).bridgeAck = e.bridgeAck ∧ (f e).watch = e.watch) : s.Keeps (t.onEntry origin f) :=
  h.list (alarmOf_map fun e => by split <;> simp [hf])

theorem tryPlaceFrame (h : s.Keeps t) : s.Keeps t.tryPlaceFrame := by
  unfold State.tryPlaceFrame
  refine State.Keeps.ite h ?_ _
  split
  · rename_i rest _ _ _
    have h' : s.Keeps { t with dis := { t.dis with queue := rest } } := h.dis
    dsimp only
    split
    · exact h'.placeFrame _
    · split
      · exact (h'.placeFrame _).onEntry _ fun _ => ⟨rfl, rfl⟩
      · exact h'
  · exact h

theorem queueFrame (h : s.Keeps t) (x : Queued) : s.Keeps (t.queueFrame x) := (h.enqueue x).tryPlaceFrame

theorem cnlAccepted (h : s.Keeps t) : s.Keeps t.cnlAccepted :=
  State.Keeps.ite (State.Keeps.queueFrame h.dis _) h _

theorem endOwnDistress (h : s.Keeps t) : s.Keeps t.endOwnDistress := h.dis

theorem cancelCompleted (h : s.Keeps t) : s.Keeps t.cancelCompleted := by
  have h' : s.Keeps { t.silenceEvent with dis := { t.silenceEvent.dis with
      cancelCount := holdAt 3 t.silenceEvent.dis.cancelCount } } := h.silenceEvent.dis
  exact State.Keeps.tryPlaceFrame (State.Keeps.ite (State.Keeps.ite h'.endOwnDistress (h'.dis) _) h' _)

theorem relayCompleted (h : s.Keeps t) : s.Keeps t.relayCompleted :=
  (State.Keeps.silenceEvent h.dis).tryPlaceFrame

end State.Keeps

/-- Refreshed, ALARM shows what the list calls for, whatever stood before. -/
theorem State.refreshAlarm_alarmRight (s : State) : s.refreshAlarm.alarmRight := rfl

namespace State.Keeps

/-- A new list with ALARM refreshed after it. -/
theorem refreshed (h : s.Keeps t) (d : Distress) (p : Port) :
    s.Keeps (State.refreshAlarm { t with dis := d, port := p }) :=
  h.trans ⟨id, fun _ => State.refreshAlarm_alarmRight _, id, id⟩

theorem alarmNotice (h : s.Keeps t) (cause : AlarmCause) (origin serial : Nat) (rest : List Field) :
    s.Keeps (t.alarmNotice cause origin serial rest) := h.blocks

end State.Keeps

theorem DistressEntry.suppress_alarm (e : DistressEntry) (idleTo : RelayState) :
    (e.suppress idleTo).bridgeAck = e.bridgeAck ∧ (e.suppress idleTo).watch = e.watch := by
  unfold DistressEntry.suppress
  split <;> exact ⟨rfl, rfl⟩

theorem State.Keeps.suppressRelay (h : s.Keeps t) (origin : Nat) (idleTo : RelayState) :
    s.Keeps (t.suppressRelay origin idleTo) := by
  have h' := h.onEntry origin fun e => e.suppress_alarm idleTo
  unfold State.suppressRelay
  dsimp only
  split
  · exact State.Keeps.ite h' (h'.dequeue _) _
  · exact h'

theorem DistressEntry.startHoldOff_alarm (e : DistressEntry) (own now : Nat) :
    (e.startHoldOff own now).bridgeAck = e.bridgeAck ∧ (e.startHoldOff own now).watch = e.watch := by
  unfold DistressEntry.startHoldOff
  split <;> exact ⟨rfl, rfl⟩

theorem State.setRelayState_alarm (s : State) (e : DistressEntry) (again : Bool) :
    (s.setRelayState e again).bridgeAck = e.bridgeAck ∧ (s.setRelayState e again).watch = e.watch := by
  unfold State.setRelayState
  dsimp only
  split
  · exact ⟨rfl, rfl⟩
  · exact ⟨rfl, rfl⟩
  · split
    · exact ⟨rfl, rfl⟩
    · split
      · exact DistressEntry.startHoldOff_alarm _ _ _
      · exact ⟨rfl, rfl⟩

namespace State.Keeps

theorem relaysAfresh (h : s.Keeps t) : s.Keeps t.relaysAfresh :=
  h.list (alarmOf_map fun e => by
    unfold State.relayAfresh
    split
    · exact t.setRelayState_alarm e _
    · exact ⟨rfl, rfl⟩)

theorem ownAlertFrame (h : s.Keeps t) (f : DistressFrame) (serial : Nat) :
    s.Keeps (t.ownAlertFrame f serial) := by
  unfold State.ownAlertFrame
  dsimp only
  split
  · exact h
  · exact h.blocks
  · exact h.blocks
  · refine State.Keeps.ite ?_ h.blocks _
    refine State.Keeps.notice (State.Keeps.ite h ?_ _) _ _
    split
    · exact h.dis
    · exact State.Keeps.ite h h.dis _
    · exact h

/-- An entry put at the end of the list refreshes ALARM (R171, R173, R184). -/
theorem putEntry (h : s.Keeps t) (f : DistressFrame) (origin serial : Nat) (cause : AlarmCause) :
    s.Keeps (t.putEntry f origin serial cause) := (h.markDistress origin).refreshed _ _

end State.Keeps

theorem DistressEntry.merge_alarm (e : DistressEntry) (f : DistressFrame) (now : Nat) :
    (e.merge f now).bridgeAck = e.bridgeAck ∧ (e.merge f now).watch = e.watch := ⟨rfl, rfl⟩

/-- The laws but ALARM's. -/
structure State.KeepsBut (s t : State) : Prop where
  quality : s.qualityRight → t.qualityRight
  store : s.store.lawful → t.store.lawful
  mute : s.Mute → t.Mute

theorem State.Keeps.but (h : s.Keeps t) : s.KeepsBut t := ⟨h.quality, h.store, h.mute⟩

namespace State.KeepsBut

theorem dis (h : s.KeepsBut t) (d : Distress) : s.KeepsBut { t with dis := d } :=
  ⟨h.quality, h.store, h.mute⟩

theorem markDistress (h : s.KeepsBut t) (call : Nat) : s.KeepsBut (t.markDistress call) :=
  have m := State.Keeps.markDistress (.refl t) call
  ⟨m.quality ∘ h.quality, m.store ∘ h.store, m.mute ∘ h.mute⟩

/-- ALARM refreshed after it, a new list needs no law of ALARM before. -/
theorem refreshed (h : s.KeepsBut t) (d : Distress) (p : Port) :
    s.Keeps (State.refreshAlarm { t with dis := d, port := p }) :=
  ⟨h.quality, fun _ => State.refreshAlarm_alarmRight _, h.store, h.mute⟩

theorem putEntry (h : s.KeepsBut t) (f : DistressFrame) (origin serial : Nat) (cause : AlarmCause) :
    s.Keeps (t.putEntry f origin serial cause) := (h.markDistress origin).refreshed _ _

end State.KeepsBut

namespace State.Keeps

/-- An entry in place of one dropped: ALARM is refreshed once, after both (R175). -/
theorem replaceEntry (h : s.Keeps t) (f : DistressFrame) (origin serial old : Nat) (cause : AlarmCause)
    (n : Nat) : s.Keeps (State.putEntry { t.dropEntry old with dis := { (t.dropEntry old).dis with replaced := n } }
      f origin serial cause) := by
  have hdrop : s.KeepsBut (t.dropEntry old) := ((h.unmarkDistress old).dequeue _).but.dis _
  exact (hdrop.dis _).putEntry f origin serial cause

theorem alertHeard (h : s.Keeps t) (f : DistressFrame) (origin serial : Nat) :
    s.Keeps (t.alertHeard f origin serial) := by
  unfold State.alertHeard
  split
  · refine State.Keeps.ite ?_ ((h.dequeue _).putEntry f origin serial _) _
    have h' := h.onEntry origin fun e => e.merge_alarm f t.now
    exact State.Keeps.ite (h'.suppressRelay origin _) h' _
  · refine State.Keeps.ite (h.putEntry f origin serial _) ?_ _
    split
    · exact h.replaceEntry f origin serial _ _ _
    · exact State.Keeps.alarmNotice h.dis _ _ _ _

theorem ackHeard (h : s.Keeps t) (f : DistressFrame) (origin serial : Nat) :
    s.Keeps (t.ackHeard f origin serial) := by
  unfold State.ackHeard
  split
  · refine State.Keeps.ite ?_ h _
    dsimp only
    have h' := h.onEntry origin (f := fun e => { e with lastHeard := t.now }) fun _ => ⟨rfl, rfl⟩
    split
    · refine State.Keeps.suppressRelay ?_ origin _
      exact h'.onEntry origin fun _ => ⟨rfl, rfl⟩
    · split
      · refine State.Keeps.suppressRelay ?_ origin _
        exact h'.onEntry origin fun _ => ⟨rfl, rfl⟩
      · exact h'
  · exact h

theorem unusableFrame (h : s.Keeps t) : s.Keeps t.unusableFrame := h.dis

theorem distressFrame (h : s.Keeps t) (f : DistressFrame) : s.Keeps (t.distressFrame f) := by
  unfold State.distressFrame
  dsimp only
  split
  · refine State.Keeps.ite (h.silenceEvent.ownAlertFrame f _) ?_ _
    split
    · exact State.Keeps.ite h.silenceEvent.unusableFrame (h.silenceEvent.alertHeard f _ _) _
    · exact State.Keeps.ite h.silenceEvent.unusableFrame (h.silenceEvent.alertHeard f _ _) _
    · exact h.silenceEvent.ackHeard f _ _
    · exact h.silenceEvent.ackHeard f _ _
  · exact h.silenceEvent.unusableFrame

end State.Keeps

end Sys2Proof.Machine
end

section
/-! PROOFS. `State.Keeps` through the receive decoder's spread mode, the catch tally, the link controller in a session
and the encoder. -/

namespace Sys2Proof.Machine

variable {s t u : State}

/-! ### The spread mode (R6 to R15) -/

namespace State.Keeps

theorem setFrame (h : s.Keeps t) {f : FrameState} (hf : s.qualityRight → f.scored) :
    s.Keeps (t.setFrame f) := h.decoder (fun hq _ => hf hq) fun _ ha => ha

theorem attributed (h : s.Keeps t) (sender : Option Nat) {sf : Nat} (hsf : s.qualityRight → sf ≤ 16) :
    s.Keeps (t.attribute sender sf) := by
  unfold State.attribute
  split
  · rename_i call
    have h' := h.recordCall call
    split
    · rename_i heq
      rw [heq] at h'
      exact (h'.feedStation call hsf).hear call
    · rename_i heq
      rw [heq] at h'
      exact h'.nm
  · exact h.nm

theorem handDistress (h : s.Keeps t) (type : FrameType) {n sum : Nat} (fields : List (Option Nat))
    (hs : s.qualityRight → 1 ≤ n ∧ sum ≤ 16 * n) : s.Keeps (t.handDistress type n sum fields) :=
  (h.attributed _ fun hq => frameSample_le (hs hq)).distressFrame _

theorem attributeBul (h : s.Keeps t) {n sum : Nat} (header : List (Option Nat))
    (hs : s.qualityRight → 1 ≤ n ∧ sum ≤ 16 * n) : s.Keeps (t.attributeBul n sum header) :=
  h.attributed _ fun hq => frameSample_le (hs hq)

/-- The frame in progress is scored. -/
theorem scored (h : s.Keeps t) {f : FrameState} (hf : t.dec.stream.frame = f) (hq : s.qualityRight) :
    f.scored := hf ▸ (h.quality hq).1

theorem cutFrame (h : s.Keeps t) (cause : CutCause) : s.Keeps (t.cutFrame cause) := by
  unfold State.cutFrame
  split
  · exact h
  · rename_i hf
    exact ((h.attributeBul _ (h.scored hf)).bulCut _ _ _).setFrame fun _ => trivial
  · rename_i hf
    exact (h.handDistress _ _ (h.scored hf)).setFrame fun _ => trivial

theorem loseSync (h : s.Keeps t) (cause : CutCause) : s.Keeps (t.loseSync cause) :=
  State.Keeps.judgeBusy ((h.cutFrame cause).decoder (fun _ _ => trivial) fun _ ha => ha)

theorem endStream (h : s.Keeps t) : s.Keeps t.endStream :=
  State.Keeps.judgeBusy ((h.cutFrame .streamEnd).decoder (fun _ _ => trivial) fun _ ha => ha)

end State.Keeps

/-- An accumulator started afresh lies in its range. -/
theorem startQ_some_inRange (q : Nat) (h : some startQ = some q) : qualityInRange q :=
  Option.some.inj h ▸ startQ_inRange

namespace State.Keeps

theorem gainSync (h : s.Keeps t) : s.Keeps t.gainSync := by
  refine State.Keeps.judgeBusy (State.Keeps.nm ?_)
  exact h.decoder (fun _ _ => trivial) fun _ _ => startQ_some_inRange

theorem unexpected (h : s.Keeps t) : s.Keeps t.unexpected :=
  State.Keeps.ite h (State.Keeps.dec h.dec) _

theorem expected (h : s.Keeps t) : s.Keeps t.expected := h.dec

theorem betweenFrames (h : s.Keeps t) (c : Option Nat) {score : Nat} (hs : score ≤ 16) :
    s.Keeps (t.betweenFrames c score) := by
  have hone : 1 ≤ 1 ∧ score ≤ 16 * 1 := ⟨le_rfl, hs⟩
  unfold State.betweenFrames
  split
  · split
    · exact h.expected.setFrame fun _ => by exact hone
    · exact State.Keeps.ite (h.expected.setFrame fun _ => by exact hone) (State.Keeps.ite h.expected h.unexpected _) _
  · exact h.unexpected

end State.Keeps

/-- One character more. -/
theorem scored_succ {n sum score : Nat} (h : 1 ≤ n ∧ sum ≤ 16 * n) (hs : score ≤ 16) :
    1 ≤ n + 1 ∧ sum + score ≤ 16 * (n + 1) := ⟨Nat.le_add_left 1 n, Nat.add_le_add h.2 hs⟩

namespace State.Keeps

theorem inBulletin (h : s.Keeps t) {n sum : Nat} (header : List (Option Nat)) (c : Option Nat) {score : Nat}
    (hf : s.qualityRight → 1 ≤ n ∧ sum ≤ 16 * n) (hs : score ≤ 16) :
    s.Keeps (t.inBulletin n sum header c score) := by
  have hmore := fun hq => scored_succ (hf hq) hs
  unfold State.inBulletin
  split
  · exact State.Keeps.ite (State.Keeps.bulHeader (h.setFrame (by exact hmore)) _) (h.setFrame (by exact hmore)) _
  · split
    · exact ((h.attributeBul header hf).bulEnd n sum).setFrame fun _ => trivial
    · split
      · exact ((h.attributeBul header hf).bulBegin n sum).setFrame fun _ => by exact ⟨le_rfl, hs⟩
      · exact State.Keeps.bulBody (h.setFrame (by exact hmore)) _

theorem inDistress (h : s.Keeps t) (type : FrameType) {n sum : Nat} (fields : List (Option Nat))
    (c : Option Nat) {score : Nat} (hf : s.qualityRight → 1 ≤ n ∧ sum ≤ 16 * n) (hs : score ≤ 16) :
    s.Keeps (t.inDistress type n sum fields c score) := by
  have hmore := fun hq => scored_succ (hf hq) hs
  unfold State.inDistress
  dsimp only
  split
  · exact h.setFrame (by exact hmore)
  · exact (h.handDistress type _ hmore).setFrame fun _ => trivial

theorem handleChar (h : s.Keeps t) (c : Option Nat) {score : Nat} (hs : score ≤ 16) :
    s.Keeps (t.handleChar c score) := by
  unfold State.handleChar
  split
  · exact h.betweenFrames c hs
  · rename_i hf
    exact h.inBulletin _ c (h.scored hf) hs
  · rename_i hf
    exact h.inDistress _ _ c (h.scored hf) hs

end State.Keeps

/-- A sample fed keeps the stream accumulator in its range. -/
theorem feedQ_map_inRange {acc : Option Nat} {v : Nat} (ha : ∀ q, acc = some q → qualityInRange q) (hv : v ≤ 16) :
    ∀ q, acc.map (fun q => feedQ q v) = some q → qualityInRange q := by
  intro q hq
  obtain ⟨p, hp, rfl⟩ := Option.map_eq_some_iff.mp hq
  exact feedQ_inRange (ha p hp) hv

namespace State.Keeps

theorem feedAcc (h : s.Keeps t) {v : Nat} (hv : v ≤ 16) :
    s.Keeps { t with dec := { t.dec with acc := t.dec.acc.map fun q => feedQ q v } } :=
  h.decoder (fun _ hf => hf) fun _ ha => feedQ_map_inRange ha hv

theorem decided (h : s.Keeps t) {r : Option Nat × Nat} (hr : r.2 ≤ 16) : s.Keeps (t.decided r) := by
  unfold State.decided
  dsimp only
  have h' := h.feedAcc hr
  refine State.Keeps.ite (State.Keeps.loseSync ?_ _)
    (State.Keeps.ite (State.Keeps.handleChar ?_ _ hr).endStream (State.Keeps.handleChar ?_ _ hr) _) _
  all_goals exact h'.dec

theorem completePair (h : s.Keeps t) (j : Nat) (f : Copy) (c : Option Copy) :
    s.Keeps (t.completePair j f c) := by
  unfold State.completePair
  split
  · exact h.dec
  · split
    · exact State.Keeps.decided h.dec (decideChar_le _ _)
    · exact h

theorem pairRead (h : s.Keeps t) (f sc : Copy) : s.Keeps (t.pairRead f sc) := by
  unfold State.pairRead
  dsimp only
  split
  · split
    · split
      · exact h.loseSync _
      · exact h.dec
    · exact h.dec
  · split
    · exact h.dec
    · exact State.Keeps.completePair h.dec _ _ _

theorem markerFound (h : s.Keeps t) (slip : Bool) : s.Keeps (t.markerFound slip) := by
  cases slip
  · exact h.dec
  · exact h.dec

theorem withF (h : s.Keeps t) (c : Copy) : s.Keeps (t.withF c) :=
  State.Keeps.ite h.dec h _

set_option Elab.async false in
theorem searchMarker (h : s.Keeps t) (m : MarkerSearch) (a b c : Copy) :
    s.Keeps (t.searchMarker m a b c) := by
  unfold State.searchMarker
  dsimp only
  split
  · exact ((h.markerFound false).completePair _ _ _).withF c
  · split
    · have h' := (h.markerFound true).completePair (t.dec.stream.pair - 1) m.f none
      exact State.Keeps.ite (h'.pairRead b c) h' _
    · split
      · exact (h.markerFound true).completePair _ _ _
      · have h' : s.Keeps ((t.onStream fun x => { x with marker := none, missedRun := x.missedRun + 1 }).onDec fun d =>
            { d with missed := bump d.missed }) := h.dec
        have h'' := h'.completePair (t.dec.stream.pair - 1) m.f (some m.s)
        exact State.Keeps.ite (State.Keeps.ite (h''.loseSync _) (h''.withF c) _) h'' _

theorem slotRead (h : s.Keeps t) (c : Copy) : s.Keeps (t.slotRead c) := by
  unfold State.slotRead
  split
  · split
    · exact h.searchMarker _ _ _ _
    · exact h.dec
  · split
    · exact h.pairRead _ _
    · exact h.dec

theorem streamSymbol (h : s.Keeps t) (y : Sym) : s.Keeps (t.streamSymbol y) := by
  unfold State.streamSymbol
  dsimp only
  split
  · exact h.dec
  · exact State.Keeps.slotRead h.dec _

/-! ### The catch tally (chapter 8) -/

theorem askReport (h : s.Keeps t) (dest : Nat) : s.Keeps (t.askReport dest).2 := by
  unfold State.askReport
  dsimp only
  split
  · exact h
  · exact h
  · exact h
  · have h' := h.createOut dest 1 (reportLength t.tally.rows.length) (some t.tally.serial) .intake
    split
    · rename_i heq
      rw [heq] at h'
      exact h'
    · rename_i heq
      rw [heq] at h'
      exact h'

theorem makeClose (h : s.Keeps t) (own ref : Nat) (source : CloseSource) (p : Option PendingClose) :
    s.Keeps (t.makeClose own ref source p) :=
  State.Keeps.blocks ((h.write _ _).queueRecord ref)

theorem deferNotice (h : s.Keeps t) (source : CloseSource) (cause : CloseCause) :
    s.Keeps (t.deferNotice source cause) := h.blocks

theorem deferClose (h : s.Keeps t) (source : CloseSource) (cause : CloseCause) :
    s.Keeps (t.deferClose source cause) := h.blocks

theorem askHourClose (h : s.Keeps t) : s.Keeps t.askHourClose := by
  unfold State.askHourClose
  split
  · rename_i office _ _
    refine State.Keeps.ite h ?_ _
    have h' := h.askReport office
    split
    · rename_i heq
      rw [heq] at h'
      exact h'.makeClose _ _ _ _
    · rename_i heq
      rw [heq] at h'
      exact h'.deferClose _ _
  · exact h.deferNotice _ _

theorem armHourClose (h : s.Keeps t) : s.Keeps t.armHourClose := State.Keeps.ite h.blocks h _

theorem evaluateHour (h : s.Keeps t) : s.Keeps t.evaluateHour := by
  unfold State.evaluateHour
  split
  · exact State.Keeps.askHourClose h.blocks
  · exact h

theorem retryClose (h : s.Keeps t) (p : PendingClose) : s.Keeps (t.retryClose p) := by
  unfold State.retryClose
  split
  · rename_i office _ _
    have h' := h.askReport office
    split
    · rename_i heq
      rw [heq] at h'
      exact h'.makeClose _ _ _ _
    · rename_i heq
      rw [heq] at h'
      exact State.Keeps.ite h'.blocks (State.Keeps.deferNotice h'.blocks _ _) _
  · exact h.blocks

theorem overdue (h : s.Keeps t) (w : ReportWatch) : s.Keeps (t.overdue w) := h.blocks

theorem reportDelivered (h : s.Keeps t) (serial attempts : Nat) :
    s.Keeps (t.reportDelivered serial attempts) := by
  unfold State.reportDelivered
  split
  · exact h.blocks
  · exact h

theorem deliver (h : s.Keeps t) (ref : Nat) : s.Keeps (t.deliver ref) := by
  unfold State.deliver
  split
  · dsimp only
    split
    · exact (h.removeOut ref).reportDelivered _ _
    · exact (h.removeOut ref).notice _ _
  · exact h

/-! ### The end of a session, and the encoder's reports (R19, R67, R87, R90) -/

theorem onSession (h : s.Keeps t) (f : Session → Session) : s.Keeps (t.onSession f) := h.blocks

theorem setPhase (h : s.Keeps t) (p : Phase) : s.Keeps (t.setPhase p) := h.blocks

theorem onCounts (h : s.Keeps t) (f : LinkCounts → LinkCounts) : s.Keeps (t.onCounts f) := h.blocks

theorem clearFailed (h : s.Keeps t) : s.Keeps t.clearFailed := h.blocks

theorem failCycle (h : s.Keeps t) : s.Keeps t.failCycle := h.blocks

/-- An encoder with its linked request gone. -/
theorem unlink (h : s.Keeps t) : s.Keeps { t with enc := { t.enc with link := none } } :=
  h.enc fun ⟨hi, hb, hf, _⟩ => ⟨hi, hb, hf, rfl⟩

theorem endSession (h : s.Keeps t) (code : EndCode) (reason : Option BreakReason) (unsent : Bool) :
    s.Keeps (t.endSession code reason unsent) := by
  unfold State.endSession
  split
  · rename_i x _
    have ha := (h.endReport x.peer code (x.failedAttempt code)).releasePeer
    have hb : s.Keeps (State.sessionEndNotice _ x code reason unsent) := ha.notice _ _
    have hd := hb.enterIdle.unlink.tryPlaceFrame
    exact State.Keeps.ite hd hd.consider _
  · exact h

theorem feedCycle (h : s.Keeps t) (x : Session) : s.Keeps (t.feedCycle x) := by
  have hv : (if x.valid then 16 else 0) ≤ 16 := by cases x.valid <;> exact Nat.le_of_ble_eq_true rfl
  exact State.Keeps.ite ((h.feedAcc hv).feedStation x.peer fun _ => hv) h _

theorem endInCycle (h : s.Keeps t) (code : EndCode) (reason : Option BreakReason) (unsent : Bool) :
    s.Keeps (t.endInCycle code reason unsent) := by
  unfold State.endInCycle
  split
  · exact (h.feedCycle _).endSession _ _ _
  · exact h

theorem peerBreak (h : s.Keeps t) (letter : Nat) : s.Keeps (t.peerBreak letter) := h.endInCycle _ _ _

theorem blockReported (h : s.Keeps t) : s.Keeps t.blockReported := h.blocks

theorem linkReport (h : s.Keeps t) (r : LinkReq) (report : TxReport) : s.Keeps (t.linkReport r report) := by
  unfold State.linkReport
  split
  · rename_i x _
    dsimp only
    have h' := State.Keeps.ite h.silenceEvent h
      ((decide (report = .sent) && decide (x.cls = 3) && decide (r.kind ≠ .reply)) = true)
    exact State.Keeps.ite (State.Keeps.ite (h'.endInCycle _ _ _) (h'.endSession _ _ _) _)
      (State.Keeps.ite (State.Keeps.ite h'.blockReported h'.failCycle _) h' _) _
  · exact h

theorem placeLink (h : s.Keeps t) (r : LinkReq) : s.Keeps (t.placeLink r) := by
  unfold State.placeLink
  split
  · rename_i hc
    dsimp only
    split
    · refine State.Keeps.encOwn (h.unlink.linkReport _ _) ?_
      have hcfg := congrArg Fixed.cfg
        (State.linkReport_fixed { t with enc := { t.enc with link := none } } ‹LinkReq› .withdrawn)
      exact (congrArg (fun c : Settings => c.ownCall.isSome) hcfg).trans hc
    · exact h.encOwn hc
  · exact h.linkReport r _

theorem placeBlock (h : s.Keeps t) (x : Session) (kind : LinkKind) (chars : List Nat) (closing : Bool) :
    s.Keeps (t.placeBlock x kind chars closing) := h.placeLink _

theorem placeReply (h : s.Keeps t) (x : Session) (r : Reply) (closing : Bool) :
    s.Keeps (t.placeReply x r closing) := h.placeLink _

/-! ### Calling and answering (R71 to R74) -/

theorem startTiming (h : s.Keeps t) : s.Keeps t.startTiming :=
  h.decoder (fun _ hf => hf) fun _ _ => startQ_some_inRange

theorem placeCall (h : s.Keeps t) (x : Session) : s.Keeps (t.placeCall x) :=
  State.Keeps.ite (h.placeBlock x _ _ _) (h.placeBlock x _ _ _) _

theorem enterCalling (h : s.Keeps t) (a : Attempt) : s.Keeps (t.enterCalling a) := by
  have h' : s.Keeps { t.startTiming with nm := { t.nm with overheard := none } } := State.Keeps.nm h.startTiming
  exact (State.Keeps.namePeer h'.blocks a.dest).placeCall _

theorem backoffOver (h : s.Keeps t) : s.Keeps t.backoffOver := by
  unfold State.backoffOver
  split
  · exact State.Keeps.ite (h.enterCalling _) h.enterIdle.consider _
  · exact h.enterIdle.consider

theorem callingShort (h : s.Keeps t) (r : Option Reply) : s.Keeps (t.callingShort r) := by
  unfold State.callingShort
  split
  · split
    · exact h.onSession _
    · exact h.peerBreak _
    · exact h
  · exact h

theorem answerCall (h : s.Keeps t) (caller cls announced boundary : Nat) :
    s.Keeps (t.answerCall caller cls announced boundary) := by
  have h' : s.Keeps { t.startTiming with nm := { t.nm with overheard := none } } := State.Keeps.nm h.startTiming
  exact State.Keeps.ite ((State.Keeps.namePeer h'.blocks caller).placeReply _ _ _) h _

/-! ### The receiver (R79 to R85) -/

theorem deliverBlock (h : s.Keeps t) (x : Session) (b : Block) (e : Nat) :
    s.Keeps (t.deliverBlock x b e).2 := by
  unfold State.deliverBlock
  dsimp only
  split
  · have h' := h.openIncoming x.peer (payloadNumber b.payload 0 2) (beginClass b.payload)
    split
    · rename_i heq
      rw [heq] at h'
      exact h'
    · rename_i heq
      rw [heq] at h'
      exact h'
  · split
    · rename_i r _
      have h' := h.incData r (dataCodes b.payload)
      split
      · rename_i heq
        rw [heq] at h'
        dsimp only
        exact State.Keeps.onCounts h' _
      · rename_i heq
        rw [heq] at h'
        exact h'
    · exact h
  · split
    · dsimp only
      exact (h.incEnd _).onCounts _
    · exact h
  · split
    · split
      · exact h.reopen _
      · exact h
    · exact h
  · split
    · exact h.onSession _
    · exact h
  · exact h.onSession _
  · exact h

theorem reply (h : s.Keeps t) (r : Reply) : s.Keeps (t.reply r) := by
  unfold State.reply
  split
  · exact h.placeReply _ _ _
  · exact h

theorem receiveBlock (h : s.Keeps t) (x : Session) (b : Block) : s.Keeps (t.receiveBlock x b) := by
  unfold State.receiveBlock
  dsimp only
  refine State.Keeps.ite ?_ (State.Keeps.ite (h.reply _) (h.reply _) _) _
  have h' := h.deliverBlock x b x.expected
  split
  all_goals
    rename_i heq
    rw [heq] at h'
  · exact (h'.onSession _).reply _
  · exact h'.reply _
  · exact h'.reply _

theorem receivingLong (h : s.Keeps t) (x : Session) (b : Option Block) : s.Keeps (t.receivingLong x b) := by
  unfold State.receivingLong
  split
  · exact h.placeReply _ _ _
  · split
    · split
      · exact h.failCycle.reply _
      · exact h.failCycle.reply _
      · exact h.peerBreak _
      · exact h.clearFailed.receiveBlock x _
    · exact h.failCycle.reply _

theorem answeringLong (h : s.Keeps t) (x : Session) (b : Option Block) : s.Keeps (t.answeringLong x b) := by
  unfold State.answeringLong
  split
  · split
    · exact (h.onSession _).reply _
    · exact (h.onSession _).reply _
    · exact h.peerBreak _
    · exact State.Keeps.receivingLong ((h.setPhase _).peerInSession.onSession _) _ _
  · exact (h.onSession _).reply _

/-! ### The sender (R75 to R85) -/

theorem messageBoundary (h : s.Keeps t) (x : Session) : s.Keeps (t.messageBoundary x) := by
  unfold State.messageBoundary
  split
  · exact (h.onOut _ _).onSession _
  · exact h.onSession _

theorem placeDue (h : s.Keeps t) : s.Keeps t.placeDue := by
  have h' : s.Keeps (match t.link.session with
    | some x =>
      match x.block, x.due with
      | some _, _ => t
      | none, some k => t.onSession fun y => y.take k
      | none, none => t.messageBoundary x
    | none => t) := by
    split
    · split
      · exact h
      · exact h.onSession _
      · exact h.messageBoundary _
    · exact h
  unfold State.placeDue
  dsimp only
  split
  · split
    · exact h'.placeBlock _ _ _ _
    · exact h'
  · exact h'

theorem followRecord (h : s.Keeps t) (ref : Nat) : s.Keeps (t.followRecord ref) := h.onSession _

theorem blockAccepted (h : s.Keeps t) (b : SendBlock) : s.Keeps (t.blockAccepted b) := by
  have h' := h.onSession fun x => { x with accepted := true }
  unfold State.blockAccepted
  dsimp only
  split
  · exact h'.followRecord _
  · exact h'.followRecord _
  · exact ((h'.onOut _ _).onCounts _).followRecord _
  · exact ((h'.deliver _).onCounts _).onSession _
  · exact (h'.setPhase _).onSession _
  · exact h'.endInCycle _ _ _

theorem restartMessage (h : s.Keeps t) (b : SendBlock) (ref : Nat) : s.Keeps (t.restartMessage b ref) :=
  (h.onOut ref _).onSession _

theorem holdRead (h : s.Keeps t) : s.Keeps t.holdRead := (h.onCounts _).onSession _

theorem replyRead (h : s.Keeps t) (b : SendBlock) (r : Reply) : s.Keeps (t.replyRead b r) := by
  have h' := h.onCounts fun c => { c with failed := 0, holds := if r.kind = .hold then c.holds else 0 }
  unfold State.replyRead
  dsimp only
  split
  · exact h'.peerBreak _
  · exact State.Keeps.ite (h'.blockAccepted b) (State.Keeps.ite (h'.onSession _) h' _) _
  · exact State.Keeps.ite h'.holdRead h' _
  · split
    · exact h'.restartMessage b _
    · exact h'
  · exact h'

theorem sendingShort (h : s.Keeps t) (x : Session) (r : Option Reply) : s.Keeps (t.sendingShort x r) := by
  unfold State.sendingShort
  refine State.Keeps.ite ?_ h _
  split
  · exact h.replyRead _ _
  · exact h.failCycle

theorem takingLong (h : s.Keeps t) (x : Session) (b : Option Block) : s.Keeps (t.takingLong x b) := by
  unfold State.takingLong
  split
  · split
    · exact (h.clearFailed.onSession _).placeReply _ _ _
    · exact h.peerBreak _
    · exact h
  · exact h

theorem takingShort (h : s.Keeps t) (x : Session) (r : Option Reply) : s.Keeps (t.takingShort x r) := by
  unfold State.takingShort
  split
  · exact State.Keeps.ite (h.clearFailed.onSession _)
      (State.Keeps.ite (h.peerBreak _) (State.Keeps.ite h h.failCycle _) _) _
  · exact State.Keeps.ite h h.failCycle _

/-! ### Slots read, and the cycle boundary (R18, R60, R67, R87) -/

theorem heardPeer (h : s.Keeps t) (x : Session) : s.Keeps (t.heardPeer x) :=
  State.Keeps.onSession (State.Keeps.ite h (h.hear _) _) _

theorem sessionBlock (h : s.Keeps t) (x : Session) : s.Keeps (t.sessionBlock x) := by
  unfold State.sessionBlock
  dsimp only
  exact State.Keeps.ite (State.Keeps.judgeBusy h.dec).silenceEvent (State.Keeps.judgeBusy h.dec) _

theorem longSlot (h : s.Keeps t) (x : Session) : s.Keeps (t.longSlot x) := by
  have h1 := h.onSession fun y => { y with longRead := true }
  have h2 : s.Keeps (match t.readLong x with
      | some b => if countsAsBlock t.link.phase b then ((t.onSession fun y => { y with longRead := true }).sessionBlock x).heardPeer x
          else (t.onSession fun y => { y with longRead := true }).sessionBlock x
      | none => t.onSession fun y => { y with longRead := true }) := by
    split
    · exact State.Keeps.ite ((h1.sessionBlock x).heardPeer x) (h1.sessionBlock x) _
    · exact h1
  unfold State.longSlot
  dsimp only
  refine State.Keeps.ite ?_ h1 _
  split
  · exact h2.answeringLong _ _
  · exact h2.receivingLong _ _
  · exact State.Keeps.ite (h2.takingLong _ _) h2 _
  · exact h2

theorem shortSlot (h : s.Keeps t) (x : Session) : s.Keeps (t.shortSlot x) := by
  have h1 := h.onSession fun y => { y with shortRead := true }
  unfold State.shortSlot
  dsimp only
  have h2 := State.Keeps.ite (h1.heardPeer x) h1
    (((t.readShort x).isSome && (x.blockSent || decide (t.link.phase = .calling) || x.turnTaking)) = true)
  split
  · exact h2.callingShort _
  · exact State.Keeps.ite (h2.takingShort _ _) (h2.sendingShort _ _) _
  · exact h2.sendingShort _ _
  · exact State.Keeps.ite (h1.endInCycle _ _ _) h1 _
  · exact h1

theorem slotReadDue (h : s.Keeps t) : s.Keeps t.slotReadDue := by
  unfold State.slotReadDue
  split
  · exact State.Keeps.ite (State.Keeps.ite (h.shortSlot _) (h.longSlot _) _) h _
  · exact h

theorem cycleSample (h : s.Keeps t) (x : Session) : s.Keeps (t.cycleSample x) := (h.feedCycle x).confirmPeer

theorem swapRole (h : s.Keeps t) (phase : Phase) (taking : Bool) : s.Keeps (t.swapRole phase taking) :=
  h.blocks

theorem changeRole (h : s.Keeps t) (x : Session) : s.Keeps (t.changeRole x) := by
  unfold State.changeRole
  split
  · exact (State.Keeps.peerInSession h.blocks).onSession _
  · exact ((h.swapRole _ _).onSession _).onCounts _
  · exact h.swapRole _ _
  · exact h

theorem nextCycle (h : s.Keeps t) : s.Keeps t.nextCycle := State.Keeps.dec (h.onSession _)

theorem takeBreak (h : s.Keeps t) (reason : BreakReason) : s.Keeps (t.takeBreak reason) := by
  unfold State.takeBreak
  split
  · exact h.endSession _ _ _
  · exact h.endSession _ _ _
  · exact h.onSession _
  · split
    · exact (h.onSession _).placeBlock _ _ _ _
    · exact h

theorem placeCycle (h : s.Keeps t) : s.Keeps t.placeCycle := by
  unfold State.placeCycle
  split
  · exact (h.onSession _).placeCall _
  · refine State.Keeps.ite h (State.Keeps.ite ?_ h.placeDue _) _
    split
    · exact (h.onSession _).placeBlock _ _ _ _
    · exact h
  · exact h.placeDue
  · exact h

theorem boundary (h : s.Keeps t) (x : Session) : s.Keeps (t.boundary x) := by
  unfold State.boundary
  dsimp only
  split
  · exact (h.cycleSample x).endSession _ _ _
  · have h' := ((h.cycleSample x).changeRole x).nextCycle
    split
    · exact State.Keeps.ite h'.placeCycle (h'.takeBreak _) _
    · exact h'.placeCycle

theorem linkRestarted (h : s.Keeps t) : s.Keeps t.linkRestarted :=
  State.Keeps.ite h (State.Keeps.enterIdle (State.Keeps.ite (h.endSession _ _ _) h _)) _

end State.Keeps

end Sys2Proof.Machine
end

section
/-! PROOFS. `State.Keeps` through the overheard link and the strobe, the encoder at work, the line unit and the clock,
the owners of the requests with the port's transfers, and the part's own timers. -/

namespace Sys2Proof.Machine

variable {s t u : State}

/-! ### Overheard calls and sessions, and the strobe (R1, R6, R17, R56 to R58) -/

namespace State.Keeps

theorem overheardPair (h : s.Keeps t) (caller called align : Nat) :
    s.Keeps (t.overheardPair caller called align) :=
  State.Keeps.nm ((((h.recordCall caller).hear caller).recordCall called).markOverheard caller .calling called
    |>.markOverheard called .calling caller)

theorem pairForPart (h : s.Keeps t) (caller own digit announced boundary : Nat) :
    s.Keeps (t.pairForPart caller own digit announced boundary) :=
  (((h.recordCall caller).hear caller).markOverheard caller .calling own).answerCall _ _ _ _

theorem callPair (h : s.Keeps t) (caller called digit announced boundary : Nat) :
    s.Keeps (t.callPair caller called digit announced boundary) := by
  unfold State.callPair
  refine State.Keeps.ite h ?_ _
  dsimp only
  have h1 := State.Keeps.ite h h.rejectCall (t.callValid caller = true)
  have h2 := State.Keeps.ite h1 h1.rejectCall ((t.cfg.ownCall = some called || t.callValid called) = true)
  refine State.Keeps.ite ?_ h2 _
  have h3 := State.Keeps.ite (h2.pairForPart caller called digit announced boundary)
    (h2.overheardPair caller called boundary) (t.cfg.ownCall = some called)
  exact State.Keeps.ite h3.silenceEvent h3 _

theorem callHalf (h : s.Keeps t) (x : CallHalf) : s.Keeps (t.callHalf x) := by
  unfold State.callHalf
  split
  · split
    · exact State.Keeps.callPair h.nm _ _ _ _ _
    · exact h.nm
  · exact h.nm

theorem endOverheard (h : s.Keeps t) (o : Overheard) : s.Keeps (t.endOverheard o) :=
  State.Keeps.quietOverheard (State.Keeps.quietOverheard h.nm _) _

theorem confirmOverheard (h : s.Keeps t) (o : Overheard) (call : Nat) :
    s.Keeps (t.confirmOverheard o call) := (h.hear call).markOverheard _ _ _

theorem overheardBlock (h : s.Keeps t) (o : Overheard) (b : Block) (start : Nat) :
    s.Keeps (t.overheardBlock o b start) := by
  unfold State.overheardBlock
  dsimp only
  refine State.Keeps.ite (State.Keeps.endOverheard ?_ _) ?_ _
  all_goals
    refine State.Keeps.confirmOverheard (State.Keeps.ite h.nm ?_ _) _ _
    exact State.Keeps.markOverheard (State.Keeps.markOverheard h.nm _ _ _) _ _ _

theorem overheardReply (h : s.Keeps t) (o : Overheard) (r : Reply) (start : Nat) :
    s.Keeps (t.overheardReply o r start) := by
  unfold State.overheardReply
  dsimp only
  exact State.Keeps.ite ((State.Keeps.confirmOverheard h.nm _ _).endOverheard _)
    (State.Keeps.confirmOverheard h.nm _ _) _

theorem heardBlock (h : s.Keeps t) (b : Block) (start : Nat) : s.Keeps (t.heardBlock b start) := by
  unfold State.heardBlock
  dsimp only
  split
  · exact h.callHalf _
  · exact h.callHalf _
  · split
    · exact State.Keeps.ite (h.overheardBlock _ b start) h _
    · exact h

theorem heardReply (h : s.Keeps t) (r : Reply) (start : Nat) : s.Keeps (t.heardReply r start) := by
  unfold State.heardReply
  split
  · exact State.Keeps.ite (h.overheardReply _ r start) h _
  · exact h

theorem blockFound (h : s.Keeps t) (b : Block) (start : Nat) : s.Keeps (t.blockFound b start) := by
  have h' : s.Keeps (State.judgeBusy { t with dec :=
      { t.dec with sync := .linked, align := some start, lastBlock := some t.now } }) := State.Keeps.judgeBusy h.dec
  exact State.Keeps.ite h' (h'.heardBlock b start) _

theorem shortFound (h : s.Keeps t) (align : Nat) : s.Keeps (t.shortFound align) := by
  unfold State.shortFound
  refine State.Keeps.ite ?_ h _
  dsimp only
  split
  · exact State.Keeps.ite h (h.heardReply _ _) _
  · exact h

theorem testWindow (h : s.Keeps t) : s.Keeps t.testWindow := by
  unfold State.testWindow
  refine State.Keeps.ite h.gainSync ?_ _
  split
  · exact h.blockFound _ _
  · split
    · exact h.shortFound _
    · exact h

theorem takeSymbol (h : s.Keeps t) (y : Sym) : s.Keeps (t.takeSymbol y) := by
  have h' : s.Keeps { t with
      gen := { t.gen with state := Config.generatorStep t.gen.state y.conf },
      dec := { t.dec with
        window := lastWindow (t.dec.window ++ [y]),
        slotSyms := if t.link.phase.running then t.dec.slotSyms ++ [y] else t.dec.slotSyms,
        strobeRef := t.now, gapSeen := false } } := h.trans ⟨id, id, id, id⟩
  unfold State.takeSymbol
  dsimp only
  split
  · exact h'.streamSymbol y
  · exact h'.testWindow

theorem strobeLost (h : s.Keeps t) : s.Keeps t.strobeLost := by
  have h' : s.Keeps (t.onDec fun d => { d with gapSeen := true, window := [], slotSyms := [] }) := h.dec
  unfold State.strobeLost
  dsimp only
  split
  · exact h'.loseSync _
  · exact State.Keeps.judgeBusy h'.dec
  · exact h'

theorem linkedOver (h : s.Keeps t) : s.Keeps t.linkedOver := State.Keeps.judgeBusy h.dec

theorem decoderRestart (h : s.Keeps t) : s.Keeps t.decoderRestart :=
  State.Keeps.decoder (State.Keeps.ite (h.loseSync _) h _) (fun _ _ => trivial) fun _ _ _ hn => by simp at hn

/-! ### The encoder at work (R2, R19 to R23) -/

theorem keyAsserted (h : s.Keeps t) : s.Keeps t.keyAsserted := by
  have h' : s.Keeps (State.channelNotClear { t with nm := { t.nm with clear := false, clearStart := none } }) :=
    State.Keeps.channelNotClear h.nm
  exact State.Keeps.ite (h'.loseSync _) h' _

theorem keyReleased (h : s.Keeps t) : s.Keeps t.keyReleased := h.trans ⟨id, id, id, id⟩

/-- A transmission starts only in a part with an own call. -/
theorem launch (h : s.Keeps t) (hc : t.Mute → t.cfg.ownCall ≠ none) (item : TxItem) (slots : List Nat) :
    s.Keeps (t.launch item slots) :=
  State.Keeps.keyAsserted (h.encMute fun hm hn => absurd hn (hc hm))

theorem startBurst (h : s.Keeps t) {r : FrameReq} (hb : t.enc.burst = some r) : s.Keeps (t.startBurst r) := by
  have hown : t.Mute → t.cfg.ownCall ≠ none := fun hm hn => by simp [(hm hn).2.1] at hb
  refine State.Keeps.keyAsserted (h.trans ⟨id, id, id, fun hm hn => absurd hn (hown hm)⟩)

theorem startFrame (h : s.Keeps t) {r : FrameReq} (hf : t.enc.frame = some r) : s.Keeps (t.startFrame r) := by
  have hown : t.Mute → t.cfg.ownCall ≠ none := fun hm hn => by simp [(hm hn).2.2.1] at hf
  refine State.Keeps.keyAsserted (h.trans ⟨id, id, id, fun hm hn => absurd hn (hown hm)⟩)

theorem serveFrames (h : s.Keeps t) : s.Keeps t.serveFrames := by
  unfold State.serveFrames
  refine State.Keeps.ite ?_ h _
  split
  · rename_i hb
    exact h.startBurst hb
  · rename_i hf
    exact State.Keeps.ite h (h.startFrame hf) _
  · exact h

theorem serveLink (h : s.Keeps t) {r : LinkReq} (hl : t.enc.link = some r) : s.Keeps (t.serveLink r) := by
  have hu := h.serveFrames.unlink
  have hcfg : t.serveFrames.cfg = t.cfg := congrArg Fixed.cfg t.serveFrames_fixed
  unfold State.serveLink
  refine State.Keeps.ite (hu.linkReport r _) (State.Keeps.ite ?_ (hu.linkReport r _) _) _
  refine State.Keeps.keyAsserted ⟨hu.quality, hu.alarm, hu.store, fun hs hn => ?_⟩
  have he : t.enc.Empty := h.mute hs (hcfg ▸ hn)
  simp [he.2.2.2] at hl

theorem frameCompleted (h : s.Keeps t) (k : FrameKind) : s.Keeps (t.frameCompleted k) := by
  cases k
  · exact h.burstCompleted
  · exact h.relayCompleted
  · exact h.cancelCompleted

/-- The transmission in flight is over or abandoned. -/
theorem land (h : s.Keeps t) : s.Keeps (State.keyReleased { t with enc := { t.enc with inFlight := none } }) :=
  State.Keeps.keyReleased (h.enc fun ⟨_, hb, hf, hl⟩ => ⟨rfl, hb, hf, hl⟩)

theorem complete (h : s.Keeps t) (x : Transmission) : s.Keeps (t.complete x) := by
  unfold State.complete
  dsimp only
  split
  · exact h.land.frameCompleted _
  · exact h.land.linkReport _ _

/-- A frame given back by a transmission in flight: a part without an own call has none. -/
theorem giveBack (h : s.Keeps t) {x : Transmission} (hx : t.enc.inFlight = some x) (r : FrameReq) :
    s.Keeps (State.holdBurst
      { State.keyReleased { t with enc := { t.enc with inFlight := none } } with
        enc := (State.keyReleased { t with enc := { t.enc with inFlight := none } }).enc.giveBack r }) := by
  refine State.Keeps.holdBurst ⟨h.land.quality, h.land.alarm, h.land.store, fun hs hn => ?_⟩
  have he : t.enc.Empty := h.mute hs hn
  simp [he.1] at hx

theorem abandon (h : s.Keeps t) : s.Keeps t.abandon := by
  unfold State.abandon
  split
  · rename_i hx
    dsimp only
    split
    · exact h.giveBack hx _
    · exact h.land.holdBurst.linkReport _ _
  · exact h.holdBurst

theorem encoderRestart (h : s.Keeps t) : s.Keeps t.encoderRestart := by
  unfold State.encoderRestart
  dsimp only
  split
  · rename_i hx
    split
    · exact (h.giveBack hx _).unlink
    · exact h.land.unlink
  · exact h.unlink

/-! ### The line unit and the clock (R190 to R198) -/

theorem handLine (h : s.Keeps t) (l : Line) : s.Keeps (t.handLine l) := by
  cases l
  · exact State.Keeps.ite h.disRaise h _
  · exact State.Keeps.ite h.cnlAccepted h _
  · exact State.Keeps.ite h.abandon h _
  · exact h.judgeBusy

theorem acceptLine (h : s.Keeps t) (l : Line) : s.Keeps (t.acceptLine l) :=
  State.Keeps.handLine h.blocks l

theorem timeTaken (h : s.Keeps t) (ref : ClockRef) : s.Keeps (t.timeTaken ref) := h.blocks

theorem firstSetting (h : s.Keeps t) (value : Nat) : s.Keeps (t.firstSetting value) :=
  ((h.timeTaken _).stepWindows _ _ _).armHourClose

theorem correct (h : s.Keeps t) (reading value : Nat) : s.Keeps (t.correct reading value) :=
  State.Keeps.ite h.blocks h.blocks _

/-! ### The owners of the requests (R95 to R211) -/

theorem invalid (h : s.Keeps t) (cls : Nat) (r : Request) : s.Keeps (t.invalid cls r) := h.blocks

theorem reqRaise (h : s.Keeps t) (r : Request) : s.Keeps (t.reqRaise r) := by
  unfold State.reqRaise
  split
  · refine State.Keeps.ite (h.invalid _ r) (State.Keeps.ite (h.result _ r _ _) ?_ _) _
    split
    · exact (h.enterAlerting _).result _ r _ _
    · exact h.result _ r _ _
    · exact (h.raiseInForce _).result _ r _ _
  · exact h.invalid _ r

theorem beginCancel (h : s.Keeps t) : s.Keeps t.beginCancel := h.dis

theorem reqCancelDistress (h : s.Keeps t) (r : Request) : s.Keeps (t.reqCancelDistress r) := by
  unfold State.reqCancelDistress
  split
  · exact h.beginCancel.result _ r _ _
  · exact h.beginCancel.result _ r _ _
  · exact h.result _ r _ _

theorem ackEntries (h : s.Keeps t) (p : DistressEntry → Bool) : s.Keeps (t.ackEntries p) :=
  h.refreshed _ t.port

theorem ackRefused (h : s.Keeps t) (r : Request) : s.Keeps (t.ackRefused r) := h.blocks

theorem reqAck (h : s.Keeps t) (r : Request) : s.Keeps (t.reqAck r) := by
  unfold State.reqAck
  split
  · split
    · exact (h.ackEntries _).result _ r _ _
    · exact h.ackRefused r
  · exact (h.ackEntries _).result _ r _ _
  · exact h.ackRefused r

theorem monitorRestart (h : s.Keeps t) : s.Keeps t.monitorRestart :=
  State.Keeps.nm (State.Keeps.judgeBusy h.nm)

theorem reqRestart (h : s.Keeps t) (r : Request) : s.Keeps (t.reqRestart r) :=
  h.decoderRestart.encoderRestart.linkRestarted.monitorRestart.result _ r _ _

theorem reqSend (h : s.Keeps t) (r : Request) : s.Keeps (t.reqSend r) := by
  unfold State.reqSend
  split
  · rename_i dest cls length _ _ _
    refine State.Keeps.ite (h.invalid _ r) (State.Keeps.ite (h.result _ r _ _) (State.Keeps.ite (h.result _ r _ _)
      (State.Keeps.ite (h.result _ r _ _) ?_ _) _) _) _
    have h' := h.createOut dest cls length none .intake
    split
    all_goals
      rename_i heq
      rw [heq] at h'
    · exact State.Keeps.result h'.blocks _ r _ _
    · exact h'.result _ r _ _
  · exact h.invalid _ r

theorem reqCancelMessage (h : s.Keeps t) (r : Request) : s.Keeps (t.reqCancelMessage r) := by
  unfold State.reqCancelMessage
  split
  · refine State.Keeps.ite (h.result _ r _ _) ?_ _
    split
    · exact h.result _ r _ _
    · exact h.result _ r _ _
    · exact (h.removeOut _).result _ r _ _
  · exact h.invalid _ r

theorem openReadout (h : s.Keeps t) (r : Request) (key : RecKey) (total : Nat) :
    s.Keeps (t.openReadout r key total) := h.blocks

theorem reqReadMessage (h : s.Keeps t) (r : Request) : s.Keeps (t.reqReadMessage r) := by
  unfold State.reqReadMessage
  split
  · exact h.invalid _ r
  · refine State.Keeps.ite (h.result _ r _ _) ?_ _
    dsimp only
    split
    · exact h.invalid _ r
    · exact State.Keeps.ite (h.result _ r _ _) (((h.onInc _ _).openReadout r _ _).result _ r _ _) _

theorem reqReadBulletin (h : s.Keeps t) (r : Request) : s.Keeps (t.reqReadBulletin r) := by
  unfold State.reqReadBulletin
  split
  · exact h.invalid _ r
  · refine State.Keeps.ite (h.result _ r _ _) ?_ _
    dsimp only
    split
    · exact h.invalid _ r
    · exact State.Keeps.ite ((State.Keeps.openReadout (h.onRec _ _) r _ _).result _ r _ _) (h.result _ r _ _) _

theorem reqSelection (h : s.Keeps t) (r : Request) : s.Keeps (t.reqSelection r) := by
  unfold State.reqSelection
  split
  · exact (h.onBul _).result _ r _ _
  · exact h.invalid _ r

theorem reqHaul (h : s.Keeps t) (r : Request) : s.Keeps (t.reqHaul r) := by
  unfold State.reqHaul
  split
  · exact h.invalid _ r
  · refine State.Keeps.ite (h.invalid _ r) (State.Keeps.ite h.blocks ?_ _) _
    split
    · exact h.result _ r _ _
    · exact h.blocks

theorem reqAux (h : s.Keeps t) (r : Request) : s.Keeps (t.reqAux r) := by
  unfold State.reqAux
  split
  · exact State.Keeps.ite h.blocks (h.invalid _ r) _
  · exact h.invalid _ r

/-! ### The port's transfers (R206 to R209) -/

theorem abandonIntake (h : s.Keeps t) (i : Intake) (cause : Nat) : s.Keeps (t.abandonIntake i cause) :=
  (State.Keeps.removeOut h.blocks i.ref).result _ _ _ _

theorem completeIntake (h : s.Keeps t) (i : Intake) : s.Keeps (t.completeIntake i) :=
  State.Keeps.blocks (h.queueRecord i.ref)

theorem takeFragment (h : s.Keeps t) (i : Intake) (bytes : List Byte) : s.Keeps (t.takeFragment i bytes) := by
  unfold State.takeFragment
  dsimp only
  refine State.Keeps.ite (h.abandonIntake i 0) (State.Keeps.ite (State.Keeps.completeIntake ?_ _) ?_ _) _
  · exact State.Keeps.blocks (h.write _ _)
  · exact State.Keeps.blocks (h.write _ _)

theorem strayFrame (h : s.Keeps t) : s.Keeps t.strayFrame := h.blocks

theorem takeText (h : s.Keeps t) (src sequence : Byte) (bytes : List Byte) :
    s.Keeps (t.takeText src sequence bytes) := by
  unfold State.takeText
  split
  · exact State.Keeps.ite h.strayFrame (State.Keeps.ite (h.takeFragment _ bytes)
      (State.Keeps.ite h.blocks (h.abandonIntake _ 1) _) _) _
  · exact h.strayFrame

theorem placeReadout (h : s.Keeps t) (x : Readout) : s.Keeps (t.placeReadout x) := h.blocks

theorem placeEnd (h : s.Keeps t) (x : Readout) : s.Keeps (t.placeEnd x) := h.blocks

theorem readoutEnded (h : s.Keeps t) (key : RecKey) (whole : Bool) : s.Keeps (t.readoutEnded key whole) := by
  cases key
  · exact h
  · exact State.Keeps.ite (h.removeInc _) (h.incReadUnfinished _) _
  · exact h.onRec _ _

theorem readoutCarried (h : s.Keeps t) (kind : OutKind) : s.Keeps (t.readoutCarried kind) := by
  unfold State.readoutCarried
  split
  · dsimp only
    split
    · exact h.blocks
    · exact State.Keeps.readoutEnded h.blocks _ _
    · exact h.blocks
  · exact h

theorem carried (h : s.Keeps t) : s.Keeps t.carried := by
  unfold State.carried
  refine State.Keeps.ite h.blocks ?_ _
  split
  · exact State.Keeps.readoutCarried h.blocks _
  · exact h

theorem stall (h : s.Keeps t) (x : Readout) : s.Keeps (t.stall x) := State.Keeps.readoutEnded h.blocks _ _

/-! ### CONFIGURE, STATUS and the port's frames (R200 to R215) -/

theorem configure (h : s.Keeps t) (item : Nat) (r : Request) (judge : ItemOutcome) :
    s.Keeps (t.configure item r judge) := by
  unfold State.configure
  refine State.Keeps.ite (h.result _ r _ _) ?_ _
  split
  · exact h.result _ r _ _
  · exact h.result _ r _ _
  · exact h.blocks

/-- Each window's coast station pinned in turn. -/
theorem pinAll (ws : List LiveWindow) : ∀ {t : State}, s.Keeps t →
    s.Keeps (ws.foldl (fun u w => u.pinCall w.win.coast fun p => { p with schedule := true }) t) := by
  induction ws with
  | nil => exact fun h => h
  | cons w ws ih => exact fun h => ih (h.pinCall _ _)

theorem pinConfigured (h : s.Keeps t) : s.Keeps t.pinConfigured := by
  unfold State.pinConfigured
  dsimp only
  split
  · exact State.Keeps.pinAll _ (h.pinCall _ _)
  · exact State.Keeps.pinAll _ h

theorem scheduleInForce (h : s.Keeps t) : s.Keeps t.scheduleInForce := by
  unfold State.scheduleInForce
  split
  · exact h.stepWindows _ _ _
  · exact h

theorem recheckCd (h : s.Keeps t) : s.Keeps t.recheckCd := State.Keeps.ite (h.acceptLine _) h _

theorem closedNotice (h : s.Keeps t) (source : Option Byte) : s.Keeps (t.closedNotice source) := h.blocks

theorem answerOne {α : Type} (h : s.Keeps t) (r : Request) (find : Nat → Option α) (content : α → List Field) :
    s.Keeps (t.answerOne r find content) := by
  unfold State.answerOne
  split
  · exact h.result _ r _ _
  · exact h.invalid _ r

theorem statusOf (h : s.Keeps t) (item : Nat) (r : Request) : s.Keeps (t.statusOf item r) := by
  unfold State.statusOf
  split
  case h_3 | h_6 | h_8 | h_10 | h_13 | h_14 | h_16 => exact h.answerOne r _ _
  all_goals exact h.result _ r _ _

theorem clearAssembly (h : s.Keeps t) (src : Byte) : s.Keeps (t.clearAssembly src) := by
  unfold State.clearAssembly
  split
  · exact h.blocks
  · exact h

theorem textFrame (h : s.Keeps t) (src sequence : Byte) (bytes : List Byte) :
    s.Keeps (t.textFrame src sequence bytes) := State.Keeps.ite h.blocks (h.takeText src sequence bytes) _

/-! ### The part's own timers -/

theorem becomeClear (h : s.Keeps t) : s.Keeps t.becomeClear := State.Keeps.channelClear h.nm

theorem crossWindow (h : s.Keeps t) (k : Nat) : s.Keeps (t.crossWindow k) := by
  unfold State.crossWindow
  split
  · exact h.windowRun _ _ _
  · exact h

theorem graceOver (h : s.Keeps t) (k : Nat) : s.Keeps (t.graceOver k) := by
  unfold State.graceOver
  split
  · exact (h.putWindow _ _).demandBreak _
  · exact h

theorem holdOver (h : s.Keeps t) : s.Keeps t.holdOver := State.Keeps.ite h.dis (State.Keeps.notice h.dis _ _) _

theorem burstOver (h : s.Keeps t) : s.Keeps t.burstOver := State.Keeps.placeBurst h.dis

theorem gapOver (h : s.Keeps t) : s.Keeps t.gapOver := State.Keeps.queueFrame h.dis _

theorem watchOver (h : s.Keeps t) (e : DistressEntry) : s.Keeps (t.watchOver e) :=
  (h.refreshed _ t.port).alarmNotice _ _ _ _

theorem holdOffOver (h : s.Keeps t) (e : DistressEntry) : s.Keeps (t.holdOffOver e) := by
  refine State.Keeps.queueFrame ?_ _
  exact h.onEntry _ fun _ => ⟨rfl, rfl⟩

theorem repeatOver (h : s.Keeps t) : s.Keeps t.repeatOver := by
  unfold State.repeatOver
  dsimp only
  split
  · exact State.Keeps.alarmNotice h.dis _ _ _ _
  · exact h.dis

/-- An entry dropped, and ALARM refreshed after it (R176, R184). -/
theorem removeEntry (h : s.Keeps t) (origin : Nat) : s.Keeps (t.dropEntry origin).refreshAlarm :=
  ((h.unmarkDistress origin).dequeue _).refreshed _ t.port

end State.Keeps

end Sys2Proof.Machine
end

section
/-! PROOFS. The tally table stays the haul list summed through every HAUL ENTRY (R139 to R143). -/

namespace Sys2Proof.Machine

/-! ### Lists -/

theorem insertBy_perm {α : Type} (before : α → α → Bool) (x : α) (l : List α) : (insertBy before x l).Perm (x :: l) := by
  induction l with
  | nil => exact .refl _
  | cons y l ih =>
    unfold insertBy
    split
    · exact .refl _
    · exact (ih.cons y).trans (.swap x y l)

/-! ### The table as the list summed -/

/-- `CatchTally.summed` of a haul list and a table alone. -/
def SummedUp (hauls : List Haul) (rows : List TallyRow) : Prop :=
  (hauls.map fun h => (h.number, h.species)).Nodup ∧
  (rows.map fun r => (r.species, r.area)).Nodup ∧
  (∀ h ∈ hauls, ∃ r ∈ rows, r.species = h.species ∧ r.area = h.area) ∧
  (∀ r ∈ rows, 1 ≤ r.count ∧ r.count = (haulsOf hauls r.species r.area).length ∧
    r.sum = ((haulsOf hauls r.species r.area).map (·.weight)).sum)

theorem CatchTally.summed_iff (t : CatchTally) : t.summed ↔ SummedUp t.hauls t.rows := Iff.rfl

/-- The order of the lists does not matter. -/
theorem SummedUp.perm {hs hs' : List Haul} {rs rs' : List TallyRow} (h : SummedUp hs rs) (hp : hs.Perm hs')
    (rp : rs.Perm rs') : SummedUp hs' rs' := by
  obtain ⟨hh, hr, hc, hs⟩ := h
  refine ⟨(hp.map _).nodup_iff.mp hh, (rp.map _).nodup_iff.mp hr, fun x hx => ?_, fun r hr' => ?_⟩
  · obtain ⟨r, hrm, hre⟩ := hc x (hp.mem_iff.mpr hx)
    exact ⟨r, rp.mem_iff.mp hrm, hre⟩
  · obtain ⟨h1, h2, h3⟩ := hs r (rp.mem_iff.mpr hr')
    have hf := hp.filter fun x => decide (x.species = r.species) && decide (x.area = r.area)
    exact ⟨h1, h2.trans hf.length_eq, h3.trans (hf.map _).sum_eq⟩

theorem TallyRow.isOf_iff (r : TallyRow) (h : Haul) : r.isOf h = true ↔ r.species = h.species ∧ r.area = h.area := by
  unfold TallyRow.isOf
  simp

/-- The hauls of a row with one haul more in the list. -/
theorem haulsOf_cons (h : Haul) (hs : List Haul) (r : TallyRow) : haulsOf (h :: hs) r.species r.area =
    if r.isOf h then h :: haulsOf hs r.species r.area else haulsOf hs r.species r.area := by
  have hiff : (h.species = r.species ∧ h.area = r.area) ↔ r.isOf h = true := by
    rw [r.isOf_iff]
    constructor <;> rintro ⟨h1, h2⟩ <;> exact ⟨h1.symm, h2.symm⟩
  by_cases hr : r.isOf h = true
  · rw [if_pos hr]
    unfold haulsOf
    simp [hiff.mpr hr]
  · rw [if_neg hr]
    have hno : ¬(h.species = r.species ∧ h.area = r.area) := fun hh => hr (hiff.mp hh)
    unfold haulsOf
    simp [hno]

namespace TallyRow

/-- A row changed by one haul's weight and count. -/
def gain (h : Haul) (r : TallyRow) : TallyRow :=
  if r.isOf h then { r with sum := r.sum + h.weight, count := r.count + 1 } else r

/-- A row that has given up one haul. -/
def lose (h : Haul) (r : TallyRow) : TallyRow :=
  if r.isOf h then { r with sum := r.sum - h.weight, count := r.count - 1 } else r

theorem gain_species (h : Haul) (r : TallyRow) : (r.gain h).species = r.species := by
  unfold TallyRow.gain
  split <;> rfl

theorem gain_area (h : Haul) (r : TallyRow) : (r.gain h).area = r.area := by
  unfold TallyRow.gain
  split <;> rfl

theorem lose_species (h : Haul) (r : TallyRow) : (r.lose h).species = r.species := by
  unfold TallyRow.lose
  split <;> rfl

theorem lose_area (h : Haul) (r : TallyRow) : (r.lose h).area = r.area := by
  unfold TallyRow.lose
  split <;> rfl

end TallyRow

theorem addToRows_eq (rows : List TallyRow) (h : Haul) : addToRows rows h =
    if rows.any (·.isOf h) then rows.map (TallyRow.gain h)
    else insertBy TallyRow.before { species := h.species, area := h.area, sum := h.weight, count := 1 } rows := rfl

theorem takeFromRows_eq (rows : List TallyRow) (h : Haul) :
    takeFromRows rows h = (rows.map (TallyRow.lose h)).filter fun r => r.count ≠ 0 := rfl

namespace SummedUp

/-- A haul of a new key joins list and table (R143). -/
theorem add {hs : List Haul} {rs : List TallyRow} (hsum : SummedUp hs rs) {h : Haul}
    (hnew : ∀ x ∈ hs, (x.number, x.species) ≠ (h.number, h.species)) : SummedUp (h :: hs) (addToRows rs h) := by
  obtain ⟨hh, hr, hc, hs'⟩ := hsum
  have hkeys : ((h :: hs).map fun x => (x.number, x.species)).Nodup :=
    List.nodup_cons.mpr ⟨by simpa using hnew, hh⟩
  rw [addToRows_eq]
  split
  case isTrue hany =>
    obtain ⟨r0, hr0, hof⟩ := List.any_eq_true.mp hany
    refine ⟨hkeys, ?_, ?_, ?_⟩
    · simpa [List.map_map, Function.comp_def, TallyRow.gain_species, TallyRow.gain_area] using hr
    · intro x hx
      rcases List.mem_cons.mp hx with rfl | hx
      · exact ⟨r0.gain x, List.mem_map_of_mem hr0, by
          rw [TallyRow.gain_species, TallyRow.gain_area]; exact (r0.isOf_iff x).mp hof⟩
      · obtain ⟨r, hrm, hre⟩ := hc x hx
        exact ⟨r.gain h, List.mem_map_of_mem hrm, by rw [TallyRow.gain_species, TallyRow.gain_area]; exact hre⟩
    · intro r' hr'
      obtain ⟨r, hrm, rfl⟩ := List.mem_map.mp hr'
      obtain ⟨h1, h2, h3⟩ := hs' r hrm
      rw [TallyRow.gain_species, TallyRow.gain_area, haulsOf_cons]
      unfold TallyRow.gain
      split
      · refine ⟨Nat.le_add_left 1 _, by simp [h2], ?_⟩
        rw [h3]
        exact Nat.add_comm _ _
      · exact ⟨h1, h2, h3⟩
  case isFalse hnone =>
    have hnot : ∀ r ∈ rs, ¬ r.isOf h = true := by simpa using hnone
    refine SummedUp.perm (hs := h :: hs) (rs := _ :: rs) ?_ (.refl _) (insertBy_perm _ _ rs).symm
    refine ⟨hkeys, List.nodup_cons.mpr ⟨?_, hr⟩, ?_, ?_⟩
    · simp only [List.mem_map, not_exists, not_and]
      intro r hrm he
      obtain ⟨e1, e2⟩ := Prod.mk.inj he
      exact hnot r hrm ((r.isOf_iff h).mpr ⟨e1, e2⟩)
    · intro x hx
      rcases List.mem_cons.mp hx with rfl | hx
      · exact ⟨_, List.mem_cons_self, rfl, rfl⟩
      · obtain ⟨r, hrm, hre⟩ := hc x hx
        exact ⟨r, List.mem_cons_of_mem _ hrm, hre⟩
    · intro r hrm
      rw [haulsOf_cons]
      rcases List.mem_cons.mp hrm with rfl | hrm
      · have hempty : haulsOf hs h.species h.area = [] := by
          refine List.filter_eq_nil_iff.mpr fun x hx hxe => ?_
          obtain ⟨r, hrm, e1, e2⟩ := hc x hx
          simp only [Bool.and_eq_true, decide_eq_true_eq] at hxe
          exact hnot r hrm ((r.isOf_iff h).mpr ⟨e1.trans hxe.1, e2.trans hxe.2⟩)
        unfold TallyRow.isOf
        simp [hempty]
      · rw [if_neg (hnot r hrm)]
        exact hs' r hrm

/-- A haul leaves list and table (R143). -/
theorem remove {hs : List Haul} {rs : List TallyRow} {h : Haul} (hsum : SummedUp (h :: hs) rs) :
    SummedUp hs (takeFromRows rs h) := by
  obtain ⟨hh, hr, hc, hs'⟩ := hsum
  have hfig (r : TallyRow) (hrm : r ∈ rs) : (r.lose h).count = (haulsOf hs r.species r.area).length ∧
      (r.lose h).sum = ((haulsOf hs r.species r.area).map (·.weight)).sum := by
    obtain ⟨h1, h2, h3⟩ := hs' r hrm
    rw [haulsOf_cons] at h2 h3
    unfold TallyRow.lose
    split
    · rename_i hof
      simp only [hof, if_true, List.length_cons, List.map_cons, List.sum_cons] at h2 h3
      exact ⟨by simp only [h2, Nat.add_sub_cancel], by simp only [h3, Nat.add_sub_cancel_left]⟩
    · rename_i hof
      simp only [hof] at h2 h3
      exact ⟨h2, h3⟩
  rw [takeFromRows_eq]
  refine ⟨(List.nodup_cons.mp hh).2, ?_, ?_, ?_⟩
  · refine ((List.filter_sublist).map _).nodup ?_
    simpa [List.map_map, Function.comp_def, TallyRow.lose_species, TallyRow.lose_area] using hr
  · intro x hx
    obtain ⟨r, hrm, e1, e2⟩ := hc x (List.mem_cons_of_mem _ hx)
    have hmem : x ∈ haulsOf hs r.species r.area := by unfold haulsOf; simp [hx, e1, e2]
    refine ⟨r.lose h, List.mem_filter.mpr ⟨List.mem_map_of_mem hrm, ?_⟩, ?_, ?_⟩
    · have := List.length_pos_of_mem hmem
      have hcount := (hfig r hrm).1
      exact decide_eq_true (hcount ▸ this.ne')
    · rw [TallyRow.lose_species, e1]
    · rw [TallyRow.lose_area, e2]
  · intro r' hr'
    obtain ⟨hr', hne⟩ := List.mem_filter.mp hr'
    obtain ⟨r, hrm, rfl⟩ := List.mem_map.mp hr'
    have hcount : (r.lose h).count ≠ 0 := by simpa using hne
    obtain ⟨h1, h2⟩ := hfig r hrm
    rw [TallyRow.lose_species, TallyRow.lose_area]
    exact ⟨Nat.one_le_iff_ne_zero.mpr hcount, h1, h2⟩

end SummedUp

/-! ### HAUL ENTRY (R140, R141) -/

namespace CatchTally

theorem haulOf_some {t : CatchTally} {number : Nat} {species : List Nat} {old : Haul}
    (h : t.haulOf number species = some old) : old ∈ t.hauls ∧ old.number = number ∧ old.species = species := by
  have hp := List.find?_some h
  simp only [Bool.and_eq_true, decide_eq_true_eq] at hp
  exact ⟨List.mem_of_find?_eq_some h, hp⟩

theorem haulOf_none {t : CatchTally} {h : Haul} (hn : t.haulOf h.number h.species = none) :
    ∀ x ∈ t.hauls, (x.number, x.species) ≠ (h.number, h.species) := by
  intro x hx he
  obtain ⟨e1, e2⟩ := Prod.mk.inj he
  simpa [e1, e2] using List.find?_eq_none.mp hn x hx

end CatchTally

/-- A list of distinct keys is one of its elements and the others. -/
theorem perm_cons_filter_key {l : List Haul} {a : Haul} (hn : (l.map fun h => (h.number, h.species)).Nodup)
    (ha : a ∈ l) : l.Perm (a :: l.filter fun x => !(x.number = a.number && x.species = a.species)) := by
  induction l with
  | nil => cases ha
  | cons y l ih =>
    obtain ⟨hy, hn'⟩ := List.nodup_cons.mp hn
    rcases List.mem_cons.mp ha with rfl | ha'
    · have hall : l.filter (fun x => !(x.number = a.number && x.species = a.species)) = l := by
        refine List.filter_eq_self.mpr fun x hx => ?_
        have hxa : (x.number, x.species) ≠ (a.number, a.species) := fun e => hy (List.mem_map.mpr ⟨x, hx, e⟩)
        by_contra hc
        simp only [Bool.not_eq_true, Bool.not_eq_false', Bool.and_eq_true, decide_eq_true_eq] at hc
        exact hxa (Prod.ext hc.1 hc.2)
      rw [List.filter_cons, if_neg (by simp), hall]
    · have hya : ¬(y.number = a.number ∧ y.species = a.species) := fun e =>
        hy (List.mem_map.mpr ⟨a, ha', Prod.ext e.1.symm e.2.symm⟩)
      have hkeep : (!(decide (y.number = a.number) && decide (y.species = a.species))) = true := by
        simpa [← Decidable.not_and_iff_or_not] using hya
      rw [List.filter_cons, if_pos hkeep]
      exact ((ih hn' ha').cons y).trans (.swap _ _ _)

namespace CatchTally

/-- The others of an entry's key are those of the haul that has it. -/
theorem without_eq {t : CatchTally} {h old : Haul} (hold : t.haulOf h.number h.species = some old) :
    t.without h = t.hauls.filter fun x => !(x.number = old.number && x.species = old.species) := by
  obtain ⟨_, e1, e2⟩ := CatchTally.haulOf_some hold
  unfold CatchTally.without
  simp only [e1, e2]

/-- A haul entry carried in keeps the table the list summed, within its bounds. -/
theorem apply_summed {t t' : CatchTally} {h : Haul} {did : HaulDone} (ht : t.summed) (hb : t.bounded)
    (ha : t.apply h = some (did, t')) : t'.summed ∧ t'.bounded := by
  obtain ⟨hb1, hb2⟩ := hb
  unfold CatchTally.apply at ha
  split at ha
  · rename_i hnone
    split at ha
    · cases ha
      exact ⟨ht, hb1, hb2⟩
    · split at ha
      · cases ha
      · next hfull =>
        dsimp only at ha
        split at ha
        · cases ha
        · next hroom =>
          cases ha
          refine ⟨SummedUp.perm (SummedUp.add ht (CatchTally.haulOf_none hnone)) (insertBy_perm _ _ _).symm (.refl _), ?_⟩
          have := (insertBy_perm Haul.before h t.hauls).length_eq
          exact ⟨this.trans_le (Nat.lt_of_not_le hfull), Nat.le_of_not_lt hroom⟩
  · rename_i old hold
    obtain ⟨hmem, e1, e2⟩ := CatchTally.haulOf_some hold
    have hperm := perm_cons_filter_key ht.1 hmem
    rw [← CatchTally.without_eq hold] at hperm
    have hlen : (t.without h).length + 1 ≤ 96 := hperm.length_eq.symm.trans_le hb1
    have hrest : SummedUp (t.without h) (takeFromRows t.rows old) := SummedUp.remove (SummedUp.perm ht hperm (.refl _))
    have hrows : (takeFromRows t.rows old).length ≤ t.rows.length := by
      rw [takeFromRows_eq]
      exact (List.length_filter_le _ _).trans (List.length_map _).le
    split at ha
    · cases ha
      exact ⟨hrest, Nat.le_of_succ_le hlen, hrows.trans hb2⟩
    · dsimp only at ha
      split at ha
      · cases ha
      · next hroom =>
        cases ha
        have hnew : ∀ x ∈ t.without h, (x.number, x.species) ≠ (h.number, h.species) := by
          intro x hx he
          obtain ⟨f1, f2⟩ := Prod.mk.inj he
          unfold CatchTally.without at hx
          simp [f1, f2] at hx
        refine ⟨SummedUp.perm (SummedUp.add hrest hnew) (insertBy_perm _ _ _).symm (.refl _), ?_⟩
        have := (insertBy_perm Haul.before h (t.without h)).length_eq
        exact ⟨this.trans_le hlen, Nat.le_of_not_lt hroom⟩

end CatchTally

/-- An empty tally is summed. -/
theorem summedUp_nil : SummedUp [] [] := ⟨List.nodup_nil, List.nodup_nil, by simp, by simp⟩

end Sys2Proof.Machine
end

section
/-! PROOFS. What the parts of the model do to all invariants at once (`State.Law`): closes and haul entries, the clock,
CONFIG CLOSED, and the frames and requests off the bus. -/

namespace Sys2Proof.Machine

/-! ### The commands a frame can be -/

namespace CanFrame

theorem timeCommand_eq {f : CanFrame} {c : Instr} (h : f.timeCommand = some c) :
    ∃ day seconds, c = .time f.src day seconds := by
  unfold CanFrame.timeCommand at h
  generalize f.data = data at h
  rcases data with _ | ⟨_, _ | ⟨_, _ | ⟨_, _ | ⟨_, _ | ⟨_, _ | ⟨_, _⟩⟩⟩⟩⟩⟩
  case cons.cons.cons.cons.cons.nil => exact ⟨_, _, (Option.some.inj h).symm⟩
  all_goals cases h

theorem positionCommand_eq {f : CanFrame} {c : Instr} (h : f.positionCommand = some c) :
    ∃ lat lon, c = .position f.src lat lon := by
  unfold CanFrame.positionCommand at h
  generalize f.data = data at h
  rcases data with _ | ⟨_, _ | ⟨_, _ | ⟨_, _ | ⟨_, _ | ⟨_, _ | ⟨_, _ | ⟨_, _ | ⟨_, _ | ⟨_, _⟩⟩⟩⟩⟩⟩⟩⟩⟩
  case cons.cons.cons.cons.cons.cons.cons.cons.nil => exact ⟨_, _, (Option.some.inj h).symm⟩
  all_goals cases h

theorem stationCommand_eq {f : CanFrame} {c : Instr} (h : f.stationCommand = some c) :
    (∃ seq bytes, c = .text f.src seq bytes) ∨ (∃ r index, r.src = f.src ∧ c = .requestContinuation r index) ∨
    ∃ cls r count, r.src = f.src ∧ c = .assemblyLead cls r count := by
  unfold CanFrame.stationCommand at h
  split at h
  · split_ifs at h
    · exact .inl ⟨_, _, (Option.some.inj h).symm⟩
    · exact .inr (.inl ⟨_, _, rfl, (Option.some.inj h).symm⟩)
    · exact .inr (.inr ⟨_, _, _, rfl, (Option.some.inj h).symm⟩)
  · cases h

/-- A frame that fits the tables is one of five commands, from the frame's own source. -/
theorem command_cases {f : CanFrame} {c : Instr} (h : f.command = some c) :
    (∃ day seconds, c = .time f.src day seconds) ∨ (∃ lat lon, c = .position f.src lat lon) ∨
    (∃ seq bytes, c = .text f.src seq bytes) ∨ (∃ r index, r.src = f.src ∧ c = .requestContinuation r index) ∨
    ∃ cls r count, r.src = f.src ∧ c = .assemblyLead cls r count := by
  unfold CanFrame.command at h
  split_ifs at h
  · exact .inl (CanFrame.timeCommand_eq h)
  · exact .inr (.inl (CanFrame.positionCommand_eq h))
  · exact .inr (.inr (CanFrame.stationCommand_eq h))

end CanFrame

variable {s t u : State}

/-! ### The relation of a step -/

/-- Every invariant that holds of `s` holds of `t`, and once the configuration window has closed what it left in force
is the same. -/
structure State.Law (s t : State) : Prop where
  quality : s.qualityRight → t.qualityRight
  alarm : s.alarmRight → t.alarmRight
  store : s.storeRight → t.storeRight
  silent : s.listenOnly → t.listenOnly
  tally : s.tally.summed → s.tally.bounded → t.tally.summed ∧ t.tally.bounded
  inForce : s.port.window = none → t.port.window = none ∧ t.inForce = s.inForce

namespace State.Law

theorem trans (h : s.Law t) (k : t.Law u) : s.Law u where
  quality := k.quality ∘ h.quality
  alarm := k.alarm ∘ h.alarm
  store := k.store ∘ h.store
  silent := k.silent ∘ h.silent
  tally hs hb := k.tally (h.tally hs hb).1 (h.tally hs hb).2
  inForce hw := ⟨(k.inForce (h.inForce hw).1).1, (k.inForce (h.inForce hw).1).2.trans (h.inForce hw).2⟩

/-- What keeps the laws and changes nothing fixed but the hauls with their tally keeps every invariant. -/
theorem of_tally (k : s.Keeps t) {hauls : List Haul} {rows : List TallyRow}
    (hf : t.fixed = { s.fixed with hauls := hauls, rows := rows })
    (ht : s.tally.summed → s.tally.bounded → SummedUp hauls rows ∧ hauls.length ≤ 96 ∧ rows.length ≤ 48) :
    s.Law t := by
  have hwin : t.port.window = s.port.window := congrArg Fixed.window hf
  have hcfg : t.cfg = s.cfg := congrArg Fixed.cfg hf
  have hquota : t.store.quota = s.store.quota := congrArg Fixed.quota hf
  have hhauls : t.tally.hauls = hauls := congrArg Fixed.hauls hf
  have hrows : t.tally.rows = rows := congrArg Fixed.rows hf
  refine ⟨k.quality, k.alarm, fun ⟨hl, hd⟩ => ⟨k.store hl, fun hw => ?_⟩, fun ⟨ho, he⟩ => ⟨fun hw => ?_, k.mute he⟩,
    fun hs hb => ?_, fun hw => ⟨hwin.trans hw, ?_⟩⟩
  · rw [hquota]
    exact hd (by rwa [State.windowOpen, hwin] at hw)
  · rw [hcfg]
    exact ho (by rwa [State.windowOpen, hwin] at hw)
  · rw [CatchTally.summed_iff, CatchTally.bounded, hhauls, hrows]
    exact ht hs hb
  · have hbridge : t.port.bridge = s.port.bridge := congrArg Fixed.bridge hf
    have hstation : t.port.station = s.port.station := congrArg Fixed.station hf
    have horigins : t.bul.origins = s.bul.origins := congrArg Fixed.origins hf
    have hwindows : t.bul.windows.map (·.win) = s.bul.windows.map (·.win) := congrArg Fixed.windows hf
    rw [State.inForce, State.inForce, hcfg, hbridge, hquota, hstation, horigins, hwindows]

/-- What keeps the laws and changes nothing fixed keeps every invariant. -/
theorem of_keeps (k : s.Keeps t) (hf : t.fixed = s.fixed) : s.Law t :=
  .of_tally k (hauls := s.tally.hauls) (rows := s.tally.rows) hf fun hs hb => ⟨hs, hb⟩

theorem refl (s : State) : s.Law s := .of_keeps (.refl s) rfl

/-- A law-keeping part of the model in which nothing fixed changes, after another. -/
theorem after (h : s.Law t) (k : t.Keeps u) (hf : u.fixed = t.fixed) : s.Law u := h.trans (.of_keeps k hf)

theorem ite (h : s.Law t) (k : s.Law u) (c : Prop) [Decidable c] : s.Law (if c then t else u) := by
  split
  · exact h
  · exact k

/-- The own timebase and the queue of commands are no invariant's. -/
theorem time_queue (s : State) (now : Nat) (pending : List Instr) :
    s.Law { s with now := now, pending := pending } :=
  ⟨id, id, id, id, fun hs hb => ⟨hs, hb⟩, fun hw => ⟨hw, rfl⟩⟩

end State.Law

/-! ### Closes and haul entries (R140, R145 to R150) -/

/-- A close empties the hauls and the table, and changes nothing else that is fixed (R149). -/
theorem State.makeClose_fixed (s : State) (own ref : Nat) (source : CloseSource) (p : Option PendingClose) :
    (s.makeClose own ref source p).fixed = { s.fixed with hauls := [], rows := [] } := by
  have hq := State.queueRecord_fixed (s.onStore fun st =>
    st.write (.out ref) (reportText own s.tally.serial s.tod s.tally.rows)) ref
  unfold State.makeClose
  rw [State.notice_fixed]
  exact (congrArg (fun f : Fixed => { f with hauls := [], rows := [] }) (hq.trans (State.onStore_fixed _ _
    (TextStore.write_quota _ _ _))))

namespace State.Law

theorem makeClose (h : s.Law t) (own ref : Nat) (source : CloseSource) (p : Option PendingClose) :
    s.Law (t.makeClose own ref source p) :=
  h.trans (.of_tally ((State.Keeps.refl t).makeClose own ref source p) (t.makeClose_fixed own ref source p)
    fun _ _ => ⟨summedUp_nil, by simp, by simp⟩)

theorem askReport (s : State) (dest : Nat) : s.Law (s.askReport dest).2 :=
  .of_keeps ((State.Keeps.refl s).askReport dest) (s.askReport_fixed dest)

theorem askHourClose (s : State) : s.Law s.askHourClose := by
  unfold State.askHourClose
  split
  · rename_i office _ _
    refine State.Law.ite (.refl s) ?_ _
    have h := State.Law.askReport s office
    split
    all_goals
      rename_i heq
      rw [heq] at h
    · exact h.makeClose _ _ _ _
    · exact h.after ((State.Keeps.refl _).deferClose _ _) (State.deferClose_fixed _ _ _)
  · exact .of_keeps ((State.Keeps.refl s).deferNotice _ _) (s.deferNotice_fixed _ _)

theorem evaluateHour (s : State) : s.Law s.evaluateHour := by
  unfold State.evaluateHour
  split
  · exact (State.Law.of_keeps (State.Keeps.blocks (.refl s)) (s.fixed_tally ..)).trans (.askHourClose _)
  · exact .refl s

/-- The pending close set, changed or ended: no invariant speaks of it. -/
theorem pendingClose (h : s.Law t) (p : Option PendingClose) :
    s.Law { t with tally := { t.tally with pending := p } } :=
  h.after (State.Keeps.blocks (.refl t)) (t.fixed_tally ..)

theorem retryClose (s : State) (p : PendingClose) : s.Law (s.retryClose p) := by
  unfold State.retryClose
  split
  · rename_i office _ _
    have h := State.Law.askReport s office
    split
    all_goals
      rename_i heq
      rw [heq] at h
    · exact h.makeClose _ _ _ _
    · have h' := h.pendingClose
      exact State.Law.ite (h' _) ((h' _).after ((State.Keeps.refl _).deferNotice _ _) (State.deferNotice_fixed _ _ _)) _
  · exact (State.Law.refl s).pendingClose _

theorem result (h : s.Law t) (cls : Nat) (r : Request) (code : ResultCode) (content : List Field) :
    s.Law (t.result cls r code content) :=
  h.after ((State.Keeps.refl t).result cls r code content) (t.result_fixed cls r code content)

theorem reqClose (s : State) (r : Request) : s.Law (s.reqClose r) := by
  have h0 := State.Law.refl s
  unfold State.reqClose
  refine State.Law.ite (h0.result _ r _ _) ?_ _
  split
  · rename_i office _ _
    refine State.Law.ite (h0.result _ r _ _) ?_ _
    have h := State.Law.askReport s office
    split
    all_goals
      rename_i heq
      rw [heq] at h
    · exact (h.makeClose _ _ _ _).result _ r _ _
    · exact (h.after ((State.Keeps.refl _).deferClose _ _) (State.deferClose_fixed _ _ _)).result _ r _ _
  · exact h0.result _ r _ _

/-- A haul entry changes the hauls and the table, and nothing else that is fixed. -/
theorem entry {c : CatchTally} {h : Haul} {did : HaulDone} (ha : s.tally.apply h = some (did, c)) :
    s.Law { s with tally := c } :=
  .of_tally (State.Keeps.blocks (.refl s)) (hauls := c.hauls) (rows := c.rows) rfl fun hs hb =>
    CatchTally.apply_summed hs hb ha

theorem reqHaul (s : State) (r : Request) : s.Law (s.reqHaul r) := by
  have h0 := State.Law.refl s
  unfold State.reqHaul
  split
  · exact h0.result _ r _ _
  · refine State.Law.ite (h0.result _ r _ _) (State.Law.ite (State.Law.result ?_ _ r _ _) ?_ _) _
    · exact .of_keeps (State.Keeps.blocks (.refl s)) (s.fixed_tally ..)
    · split
      · exact h0.result _ r _ _
      · rename_i ha
        exact (State.Law.entry ha).result _ r _ _

/-! ### The clock and CONFIG CLOSED (R196, R212 to R214) -/

theorem stepClock (s : State) (reading value : Nat) (forward : Bool) :
    s.Law (s.stepClock reading value forward) := by
  refine State.Law.trans (.of_keeps ?_ ?_) (.evaluateHour _)
  · exact State.Keeps.stepWindows (State.Keeps.blocks (.refl s)) _ _ _
  · exact (State.stepWindows_fixed _ _ _ _).trans (State.timeTaken_fixed _ _)

theorem takeTime (s : State) (day : BitVec 16) (seconds : BitVec 24) : s.Law (s.takeTime day seconds) := by
  have hfirst (value : Nat) : (s.firstSetting value).fixed = s.fixed := by
    simp [State.firstSetting]
  unfold State.takeTime
  refine State.Law.ite ?_ ?_ _
  · exact .of_keeps (State.Keeps.blocks (.refl s)) rfl
  dsimp only
  split
  · exact .of_keeps ((State.Keeps.refl s).firstSetting _) (hfirst _)
  · exact State.Law.ite (.of_keeps ((State.Keeps.refl s).correct _ _) (s.correct_fixed _ _)) (.stepClock s _ _ _) _

/-- The recorded values come into force while the window is open: the encoder is empty, and the text store stands under
the default quotas. -/
theorem applyRecorded (hw : s.windowOpen) : s.Law s.applyRecorded where
  quality := id
  alarm := id
  store := fun ⟨hl, hd⟩ => ⟨TextStore.lawful_judgeQuotas hl (hd hw) _, fun h => by
    simp [State.windowOpen, State.applyRecorded] at h⟩
  silent := fun ⟨ho, he⟩ => ⟨fun h => by simp [State.windowOpen, State.applyRecorded] at h, fun _ => he (ho hw)⟩
  tally hs hb := ⟨hs, hb⟩
  inForce hn := by unfold State.windowOpen at hw; simp [hn] at hw

theorem closeConfig (hw : s.windowOpen) (source : Option Byte) : s.Law (s.closeConfig source) := by
  refine (State.Law.applyRecorded hw).after ?_ ?_
  · exact State.Keeps.consider (State.Keeps.blocks
      ((State.Keeps.refl s.applyRecorded).judgeBusy.pinConfigured.scheduleInForce.armHourClose.relaysAfresh.recheckCd))
  · unfold State.closeConfig
    simp

end State.Law

theorem State.windowOpen_of_not_closed (h : ¬s.configClosed = true) : s.windowOpen := by
  simpa [State.windowOpen, State.configClosed, Option.isSome_iff_ne_none] using h

namespace State.Law

theorem reqConfigureDone (s : State) (r : Request) : s.Law (s.reqConfigureDone r) := by
  unfold State.reqConfigureDone
  split
  · exact (State.Law.refl s).result _ r _ _
  · rename_i h
    exact (State.Law.closeConfig (State.windowOpen_of_not_closed h) _).result _ r _ _

/-! ### Requests and frames off the bus (R200 to R204) -/

theorem configure (s : State) (item : Nat) (r : Request) (judge : ItemOutcome) :
    s.Law (s.configure item r judge) := .of_keeps ((State.Keeps.refl s).configure item r judge) (s.configure_fixed ..)

theorem reqConfigure (s : State) (r : Request) : s.Law (s.reqConfigure r) := by
  unfold State.reqConfigure
  split
  · exact .configure s _ _ _
  · exact .configure s _ _ _

theorem answerStatus (s : State) (r : Request) (content : List Field) : s.Law (s.answerStatus r content) :=
  (State.Law.refl s).result _ _ _ _

theorem answerOne {α : Type} (s : State) (r : Request) (find : Nat → Option α) (content : α → List Field) :
    s.Law (s.answerOne r find content) := .of_keeps ((State.Keeps.refl s).answerOne r find content) (s.answerOne_fixed ..)

theorem reqStatus (s : State) (r : Request) : s.Law (s.reqStatus r) := by
  unfold State.reqStatus
  split
  · exact .of_keeps ((State.Keeps.refl s).statusOf _ _) (s.statusOf_fixed _ _)
  · exact (State.Law.refl s).result _ _ _ _

/-- One number of the match that finds a class's owner, which is a chain of tests. -/
theorem of_test {s : State} {r : Request} {c : Prop} {inst : Decidable c} {x : c → State → Request → State}
    {y : ¬ c → State → Request → State} (hx : ∀ h, s.Law (x h s r)) (hy : ∀ h, s.Law (y h s r)) :
    s.Law (dite c x y s r) := by
  cases inst with
  | isTrue h => exact hx h
  | isFalse h => exact hy h

set_option linter.auxLemma false in
/-- Every owner keeps the invariants. The match that finds the owner is taken as the chain of tests that it is, one test
at a time: what a split of it needs first, an equation for each of its numbers, fills the compile's memory. -/
theorem owner (cls : Nat) (s : State) (r : Request) : s.Law (ownerOf cls s r) := by
  have k := State.Keeps.refl s
  unfold ownerOf
  delta ownerOf.match_1
  refine of_test ?_ fun _ => ?_
  · rintro rfl
    exact .of_keeps (k.reqRaise r) (s.reqRaise_fixed r)
  refine of_test ?_ fun _ => ?_
  · rintro rfl
    exact .of_keeps (k.reqCancelDistress r) (s.reqCancelDistress_fixed r)
  refine of_test ?_ fun _ => ?_
  · rintro rfl
    exact .of_keeps (k.reqAck r) (s.reqAck_fixed r)
  refine of_test ?_ fun _ => ?_
  · rintro rfl
    exact .of_keeps (k.reqRestart r) (s.reqRestart_fixed r)
  refine of_test ?_ fun _ => ?_
  · rintro rfl
    exact .reqConfigure s r
  refine of_test ?_ fun _ => ?_
  · rintro rfl
    exact .reqConfigureDone s r
  refine of_test ?_ fun _ => ?_
  · rintro rfl
    exact .of_keeps (k.reqSend r) (s.reqSend_fixed r)
  refine of_test ?_ fun _ => ?_
  · rintro rfl
    exact .of_keeps (k.reqCancelMessage r) (s.reqCancelMessage_fixed r)
  refine of_test ?_ fun _ => ?_
  · rintro rfl
    exact .of_keeps (k.reqReadBulletin r) (s.reqReadBulletin_fixed r)
  refine of_test ?_ fun _ => ?_
  · rintro rfl
    exact .of_keeps (k.reqReadMessage r) (s.reqReadMessage_fixed r)
  refine of_test ?_ fun _ => ?_
  · rintro rfl
    exact .reqHaul s r
  refine of_test ?_ fun _ => ?_
  · rintro rfl
    exact .reqClose s r
  refine of_test ?_ fun _ => ?_
  · rintro rfl
    exact .of_keeps (k.reqSelection r) (s.reqSelection_fixed r)
  refine of_test ?_ fun _ => ?_
  · rintro rfl
    exact .of_keeps (k.reqAux r) (s.reqAux_fixed r)
  refine of_test ?_ fun _ => .refl s
  · rintro rfl
    exact .reqStatus s r

theorem whole (s : State) (cls : Nat) (r : Request) {owner : State → Request → State}
    (ho : ∀ u : State, u.Law (owner u r)) : s.Law (s.whole cls r owner) := by
  unfold State.whole
  split
  · exact ho s
  · refine .of_keeps (State.Keeps.result (State.Keeps.blocks (.refl s)) cls r _ _) ?_
    rw [State.result_fixed]
    rfl

theorem clearAssembly (s : State) (src : Byte) : s.Law (s.clearAssembly src) :=
  .of_keeps ((State.Keeps.refl s).clearAssembly src) (s.clearAssembly_fixed src)

theorem fromBus (s : State) (src : Byte) {f : State → State} (hf : ∀ u : State, u.Law (f u)) :
    s.Law (s.fromBus src f) := by
  unfold State.fromBus
  split
  · exact .refl s
  · split
    · exact .of_keeps (State.Keeps.blocks (.refl s)) rfl
    · exact hf s

theorem request (s : State) (cls : Nat) (r : Request) {owner : State → Request → State}
    (ho : ∀ u : State, u.Law (owner u r)) : s.Law (s.request cls r owner) :=
  .fromBus s r.src fun u => (State.Law.clearAssembly u r.src).trans (.whole _ cls r ho)

theorem countMalformed (s : State) : s.Law s.countMalformed :=
  .of_keeps (State.Keeps.blocks (.refl s)) rfl

theorem strayFrame (s : State) : s.Law s.strayFrame := .of_keeps (State.Keeps.blocks (.refl s)) rfl

theorem takeLead (s : State) (cls : Byte) (r : Request) (count : Byte) : s.Law (s.takeLead cls r count) := by
  unfold State.takeLead
  refine State.Law.ite (.countMalformed s) ?_ _
  refine (State.Law.clearAssembly s r.src).trans ?_
  refine State.Law.ite (.whole _ _ r fun u => .owner _ u r) (State.Law.ite ?_ ?_ _) _
  · refine .of_keeps (State.Keeps.result (State.Keeps.blocks (.refl _)) _ r _ _) ?_
    rw [State.result_fixed]
    rfl
  · exact .of_keeps (State.Keeps.blocks (.refl _)) rfl

theorem abandonAssembly (s : State) (a : Assembly) : s.Law (s.abandonAssembly a) :=
  .of_keeps (State.Keeps.blocks (.refl s)) (s.abandonAssembly_fixed a)

theorem takeContinuation (s : State) (r : Request) (index : Byte) : s.Law (s.takeContinuation r index) := by
  unfold State.takeContinuation
  refine State.Law.ite (.countMalformed s) ?_ _
  split
  · rename_i a _
    refine State.Law.ite (.strayFrame s) (State.Law.ite (State.Law.ite ?_ ?_ _) (State.Law.ite (.refl s)
      (.abandonAssembly s a) _) _) _
    · exact State.Law.trans (.of_keeps (State.Keeps.blocks (.refl s)) (s.dropAssembly_fixed a.src))
        (.whole _ _ _ fun u => .owner _ u _)
    · exact .of_keeps (State.Keeps.blocks (.refl s)) rfl
  · exact .strayFrame s

theorem takePosition (s : State) (latitude longitude : BitVec 32) :
    s.Law (s.takePosition latitude longitude) :=
  .of_keeps (State.Keeps.ite (State.Keeps.blocks (.refl s)) (State.Keeps.blocks (.refl s)) _)
    (s.takePosition_fixed latitude longitude)

theorem textFrame (s : State) (src sequence : Byte) (bytes : List Byte) :
    s.Law (s.textFrame src sequence bytes) :=
  .of_keeps ((State.Keeps.refl s).textFrame src sequence bytes) (s.textFrame_fixed src sequence bytes)

theorem takeFrame (s : State) {f : CanFrame} {c : Instr} (h : f.command = some c) : s.Law (s.takeFrame c) := by
  rcases CanFrame.command_cases h with ⟨day, secs, rfl⟩ | ⟨lat, lon, rfl⟩ | ⟨seq, bytes, rfl⟩ |
    ⟨r, index, -, rfl⟩ | ⟨cls, r, count, -, rfl⟩
  · exact .takeTime s _ _
  · exact .takePosition s _ _
  · exact .textFrame s _ _ _
  · exact .takeContinuation s _ _
  · exact .takeLead s _ _ _

theorem takeOther (s : State) (f : CanFrame) : s.Law (s.takeOther f) := by
  refine .fromBus s f.src fun u => State.Law.ite ?_ (.refl u) _
  split
  · next hc => exact .takeFrame u hc
  · exact .countMalformed u

/-! ### Every command (R189 to R215) -/

theorem of_taken {f : State → State} (h : s.taken f = .next t) (hf : s.Law (f s)) : s.Law t := by
  cases h
  exact State.Law.ite (.refl s) hf _

theorem of_timed {due : Bool} {f : State → State} (h : s.timed due f = .next t) (hf : s.Law (f s)) :
    s.Law t := by
  refine State.Law.of_taken h ?_
  exact State.Law.ite hf (.refl s) (due = true)

theorem of_timedOn {α : Type} {x : Option α} {f : State → α → State} (h : s.timedOn x f = .next t)
    (hf : ∀ a, x = some a → s.Law (f s a)) : s.Law t := by
  refine State.Law.of_taken h ?_
  cases x with
  | none => exact .refl s
  | some a => exact hf a rfl

end State.Law

/-- A condition that let something through. -/
theorem eq_of_ite_some {α : Type} {c : Prop} [Decidable c] {x : Option α} {a : α} (h : (if c then x else none) = some a) :
    x = some a := by
  split at h
  · exact h
  · cases h

end Sys2Proof.Machine
end

section
/-! PROOFS. Every command keeps the invariants (R26, R37, R142, R184, R214): the walk over the commands, the two resets,
the step, and the obligations read off from it. -/

namespace Sys2Proof.Machine

variable {s t : State}

/-! ### Every command that is no reset -/

set_option Elab.async false in
theorem State.Law.of_exec {c : Instr} (hc : c.isReset = false) (h : exec c s = .next t) : s.Law t := by
  have k := State.Keeps.refl s
  cases c with
  | powerOn straps dis cnl txinh cd => cases hc
  | resetLow => cases hc
  -- the decoder, the net monitor and the encoder
  | rxsStrobe bit confidence =>
    refine .of_taken (show execRxsStrobe bit confidence s = _ from h) ?_
    exact State.Law.ite (.refl s) (.of_keeps (k.takeSymbol _) (s.takeSymbol_fixed _)) _
  | strobeGap => exact .of_timed (show execStrobeGap s = _ from h) (.of_keeps k.strobeLost s.strobeLost_fixed)
  | linkedTimeout =>
    exact .of_timed (show execLinkedTimeout s = _ from h)
      (.of_keeps k.linkedOver s.linkedOver_fixed)
  | clearInterval =>
    exact .of_timed (show execClearInterval s = _ from h)
      (.of_keeps k.becomeClear s.becomeClear_fixed)
  | pendingHalfExpiry => exact .of_timed (show execPendingHalfExpiry s = _ from h) (.of_keeps k.nm rfl)
  | overheardLinkTimeout => exact .of_timed (show execOverheardLinkTimeout s = _ from h) (.of_keeps k.nm rfl)
  | entryAging call =>
    exact .of_timed (show execEntryAging call s = _ from h)
      (.of_keeps (k.onStation call fun _ => rfl) (s.onStation_fixed _ _))
  | startTransmission =>
    exact .of_timed (show execStartTransmission s = _ from h)
      (.of_keeps k.serveFrames s.serveFrames_fixed)
  | linkSlotStart =>
    exact .of_timedOn (show execLinkSlotStart s = _ from h)
      (fun r hr => .of_keeps (k.serveLink (eq_of_ite_some hr)) (s.serveLink_fixed r))
  | transmissionComplete =>
    exact .of_timedOn (show execTransmissionComplete s = _ from h)
      (fun x _ => .of_keeps (k.complete x) (s.complete_fixed x))
  -- the link controller and the message queues
  | consideration =>
    exact .of_timed (show execConsideration s = _ from h)
      (.of_keeps (t := s.considerAgain) (State.Keeps.consider k.blocks) s.considerAgain_fixed)
  | backoffEnd => exact .of_timed (show execBackoffEnd s = _ from h) (.of_keeps k.backoffOver s.backoffOver_fixed)
  | cycleBoundary =>
    exact .of_timedOn (show execCycleBoundary s = _ from h)
      (fun x _ => .of_keeps (k.boundary x) (s.boundary_fixed x))
  | sessionSlotRead =>
    exact .of_timed (show execSessionSlotRead s = _ from h)
      (.of_keeps k.slotReadDue s.slotReadDue_fixed)
  | nextEligibleReached ref =>
    exact .of_timed (show execNextEligibleReached ref s = _ from h)
      (.of_keeps (k.onOut _ _).consider ((State.consider_fixed _).trans (s.onOut_fixed _ _)))
  | partialExpiry ref =>
    exact .of_timedOn (show execPartialExpiry ref s = _ from h)
      (fun r _ => .of_keeps (k.discardPartial r 1) (s.discardPartial_fixed r 1))
  -- the bulletin receiver and the catch tally
  | heardListExpiry =>
    exact .of_timed (show execHeardListExpiry s = _ from h)
      (.of_keeps k.blocks s.forgetHeard_fixed)
  | windowBoundary window =>
    exact .of_timed (show execWindowBoundary window s = _ from h)
      (.of_keeps (k.crossWindow window) (s.crossWindow_fixed window))
  | graceExpiry window =>
    exact .of_timed (show execGraceExpiry window s = _ from h)
      (.of_keeps (k.graceOver window) (s.graceOver_fixed window))
  | closeInstant => exact .of_timed (show execCloseInstant s = _ from h) (.evaluateHour s)
  | closeRetry => exact .of_timedOn (show execCloseRetry s = _ from h) (fun p _ => .retryClose s p)
  | reportOverdue serial =>
    exact .of_timedOn (show execReportOverdue serial s = _ from h)
      (fun w _ => .of_keeps (k.overdue w) (s.overdue_fixed w))
  -- the distress unit
  | burstTimerExpiry =>
    exact .of_timed (show execBurstTimerExpiry s = _ from h)
      (.of_keeps k.burstOver s.burstOver_fixed)
  | distressHeld => exact .of_timed (show execDistressHeld s = _ from h) (.of_keeps k.holdOver s.holdOver_fixed)
  | cancelTimerExpiry =>
    exact .of_timed (show execCancelTimerExpiry s = _ from h)
      (.of_keeps (k.endPending.notice _ _) s.cancelOver_fixed)
  | cancelGapExpiry => exact .of_timed (show execCancelGapExpiry s = _ from h) (.of_keeps k.gapOver s.gapOver_fixed)
  | watchExpiry origin =>
    exact .of_timedOn (show execWatchExpiry origin s = _ from h)
      (fun e _ => .of_keeps (k.watchOver e) (s.watchOver_fixed e))
  | holdOffExpiry origin =>
    exact .of_timedOn (show execHoldOffExpiry origin s = _ from h)
      (fun e _ => .of_keeps (k.holdOffOver e) (s.holdOffOver_fixed e))
  | alarmRepeat => exact .of_timed (show execAlarmRepeat s = _ from h) (.of_keeps k.repeatOver s.repeatOver_fixed)
  | alarmPulse => exact .of_timed (show execAlarmPulse s = _ from h) (.of_keeps k.dis s.pulse_fixed)
  | entryRemoval origin =>
    exact .of_timedOn (show execEntryRemoval origin s = _ from h) (fun e _ => .of_keeps (k.removeEntry e.origin)
      ((State.refreshAlarm_fixed _).trans (s.dropEntry_fixed e.origin)))
  | silenceEnd => exact .of_timed (show execSilenceEnd s = _ from h) (.of_keeps k.dis rfl)
  -- the lines and the clock
  | rawLevelChange line high =>
    exact .of_taken (show execRawLevelChange line high s = _ from h)
      (.of_keeps k.blocks rfl)
  | acceptedChange line =>
    exact .of_timed (show execAcceptedChange line s = _ from h)
      (.of_keeps (k.acceptLine line) (s.acceptLine_fixed line))
  | syncLapse => exact .of_timed (show execSyncLapse s = _ from h) (.of_keeps k.blocks rfl)
  | time src day seconds =>
    exact .of_taken (show execTime src day seconds s = _ from h)
      (.fromBus s src fun u => .takeTime u day seconds)
  | position src latitude longitude =>
    exact .of_taken (show execPosition src latitude longitude s = _ from h)
      (.fromBus s src fun u => .takePosition u latitude longitude)
  -- frames, assemblies and transfers
  | malformedFrame f => exact .of_taken (show execMalformedFrame f s = _ from h) (.takeOther s f)
  | assemblyLead cls r count =>
    exact .of_taken (show execAssemblyLead cls r count s = _ from h)
      (.fromBus s r.src fun u => .takeLead u cls r count)
  | requestContinuation r index =>
    exact .of_taken (show execRequestContinuation r index s = _ from h)
      (.fromBus s r.src fun u => .takeContinuation u r index)
  | assemblyTimeout src =>
    exact .of_timedOn (show execAssemblyTimeout src s = _ from h)
      (fun a _ => .abandonAssembly s a)
  | text src sequence bytes =>
    exact .of_taken (show execText src sequence bytes s = _ from h)
      (.fromBus s src fun u => .textFrame u src sequence bytes)
  | intakeTimeout =>
    exact .of_timedOn (show execIntakeTimeout s = _ from h)
      (fun i _ => .of_keeps (k.abandonIntake i 2) (s.abandonIntake_fixed i 2))
  | readoutText =>
    exact .of_timedOn (show execReadoutText s = _ from h)
      (fun x _ => .of_keeps (k.placeReadout x) (s.placeReadout_fixed x))
  | endOfText =>
    exact .of_timedOn (show execEndOfText s = _ from h)
      (fun x _ => .of_keeps (k.placeEnd x) (s.placeEnd_fixed x))
  | frameCarried => exact .of_taken (show execFrameCarried s = _ from h) (.of_keeps k.carried s.carried_fixed)
  | sendingStops => exact .of_taken (show execSendingStops s = _ from h) (.of_keeps k.blocks rfl)
  | sendingResumes =>
    exact .of_taken (show execSendingResumes s = _ from h)
      (.of_keeps k.blocks (s.fixed_port _ _ _ _ (Port.startNext_same { s.port with stopped := false })))
  | readoutStall =>
    exact .of_timedOn (show execReadoutStall s = _ from h)
      (fun x _ => .of_keeps (k.stall x) (s.stall_fixed x))
  -- whole requests
  | linkRestart r =>
    exact .of_taken (show execLinkRestart r s = _ from h)
      (.request s _ r fun u => .owner clsRestart u r)
  | raiseDistress r =>
    exact .of_taken (show execRaiseDistress r s = _ from h)
      (.request s _ r fun u => .owner clsRaise u r)
  | cancelDistress r =>
    exact .of_taken (show execCancelDistress r s = _ from h)
      (.request s _ r fun u => .owner clsCancelDistress u r)
  | acknowledgeAlert r =>
    exact .of_taken (show execAcknowledgeAlert r s = _ from h)
      (.request s _ r fun u => .owner clsAck u r)
  | sendMessage r =>
    exact .of_taken (show execSendMessage r s = _ from h)
      (.request s _ r fun u => .owner clsSend u r)
  | cancelMessage r =>
    exact .of_taken (show execCancelMessage r s = _ from h)
      (.request s _ r fun u => .owner clsCancelMessage u r)
  | readMessage r =>
    exact .of_taken (show execReadMessage r s = _ from h)
      (.request s _ r fun u => .owner clsReadMessage u r)
  | readBulletin r =>
    exact .of_taken (show execReadBulletin r s = _ from h)
      (.request s _ r fun u => .owner clsReadBulletin u r)
  | haulEntry r => exact .of_taken (show execHaulEntry r s = _ from h) (.request s _ r fun u => .reqHaul u r)
  | closeReport r => exact .of_taken (show execCloseReport r s = _ from h) (.request s _ r fun u => .reqClose u r)
  | setSelection r =>
    exact .of_taken (show execSetSelection r s = _ from h)
      (.request s _ r fun u => .owner clsSelection u r)
  | setAux r => exact .of_taken (show execSetAux r s = _ from h) (.request s _ r fun u => .owner clsAux u r)
  -- the configuration window
  | configureDone r =>
    exact .of_taken (show execConfigureDone r s = _ from h)
      (.request s _ r fun u => .reqConfigureDone u r)
  | configWindowExpiry =>
    refine .of_taken (show execConfigWindowExpiry s = _ from h) ?_
    split
    · rename_i hd
      refine .closeConfig ?_ none
      unfold State.windowExpired at hd
      split at hd
      · rename_i hw
        unfold State.windowOpen
        simp [hw]
      · cases hd
    · exact .refl s
  | configureOwnCall r | configurePortOffice r | configureBridgeStations r | configureQuotas r | configureRelayMode r
  | configureBusyRule r | configureCdFilterTime r | configureScheduleWindow r | configureClearSchedule r
  | configureInitialSelection r | configureOriginFilter r | configureCloseHour r | configureReportDeadline r
  | configureNextSerial r | configureWatchInterval r | configureCallThreshold r | configureGoodLimit r
  | configurePoorLimit r | configurePageLimit r | configureAuxDistressMode r =>
    exact .of_taken (f := fun t => t.request clsConfigure r _) h (.request s _ r fun u => .configure u _ _ _)
  -- STATUS
  | statusLinkController r | statusNetMonitor r | statusReceiveDecoder r | statusOutgoingQueue r | statusIncomingList r
  | statusBulletinReceiver r | statusTextStore r | statusCatchTally r | statusDistressUnit r | statusLines r
  | statusClock r | statusBusPort r =>
    exact .of_taken (f := fun t => t.request clsStatus r _) h (.request s _ r fun u => .answerStatus u _ _)
  | statusStationEntry r | statusOutgoingRecord r | statusIncomingRecord r | statusBulletinRecord r | statusHaulEntry r
  | statusTallyRow r | statusDistressEntry r =>
    exact .of_taken (f := fun t => t.request clsStatus r _) h (.request s _ r fun u => .answerOne u _ _ _)

/-! ### The resets (R189) -/

namespace State

/-- The invariants hold of the state after POWER_ON, with any straps and any levels on the pins. -/
theorem atPowerOn_quality (straps : Byte) (dis cnl txinh cd : Bool) :
    (State.atPowerOn straps dis cnl txinh cd).qualityRight :=
  ⟨trivial, ⟨fun _ h => (Option.some_ne_none _ h.symm).elim, fun _ h => (List.not_mem_nil h).elim⟩⟩

theorem atPowerOn_alarm (straps : Byte) (dis cnl txinh cd : Bool) :
    (State.atPowerOn straps dis cnl txinh cd).alarmRight := rfl

theorem atPowerOn_store (straps : Byte) (dis cnl txinh cd : Bool) :
    (State.atPowerOn straps dis cnl txinh cd).storeRight :=
  ⟨⟨List.nodup_nil, ⟨fun _ h => (List.not_mem_nil h).elim, ⟨fun _ => Nat.zero_le _, ⟨rfl, ⟨Nat.zero_le _,
    fun _ h => (List.not_mem_nil h).elim⟩⟩⟩⟩⟩, fun _ => rfl⟩

theorem atPowerOn_listenOnly (straps : Byte) (dis cnl txinh cd : Bool) :
    (State.atPowerOn straps dis cnl txinh cd).listenOnly := ⟨fun _ => rfl, fun _ => ⟨rfl, rfl, rfl, rfl⟩⟩

theorem atPowerOn_tally (straps : Byte) (dis cnl txinh cd : Bool) :
    (State.atPowerOn straps dis cnl txinh cd).tally.summed ∧ (State.atPowerOn straps dis cnl txinh cd).tally.bounded :=
  ⟨summedUp_nil, Nat.zero_le _, Nat.zero_le _⟩

end State

theorem isReset_cases {c : Instr} (h : c.isReset = true) :
    (∃ straps dis cnl txinh cd, c = .powerOn straps dis cnl txinh cd) ∨ c = .resetLow := by
  cases c with
  | powerOn straps dis cnl txinh cd => exact .inl ⟨straps, dis, cnl, txinh, cd, rfl⟩
  | resetLow => exact .inr rfl
  | _ => exact (Bool.false_ne_true h).elim

/-- What a reset leaves: the state at POWER_ON in every block that an invariant speaks of. -/
theorem exec_reset {c : Instr} (hc : c.isReset = true) (h : exec c s = .next t) : ∃ straps dis cnl txinh cd,
    t.dec = (State.atPowerOn straps dis cnl txinh cd).dec ∧ t.nm = (State.atPowerOn straps dis cnl txinh cd).nm ∧
    t.dis = (State.atPowerOn straps dis cnl txinh cd).dis ∧ t.store = (State.atPowerOn straps dis cnl txinh cd).store ∧
    t.enc = (State.atPowerOn straps dis cnl txinh cd).enc ∧ t.cfg = (State.atPowerOn straps dis cnl txinh cd).cfg ∧
    t.tally = (State.atPowerOn straps dis cnl txinh cd).tally := by
  rcases isReset_cases hc with ⟨straps, dis, cnl, txinh, cd, rfl⟩ | rfl
  · cases h
    exact ⟨straps, dis, cnl, txinh, cd, rfl, rfl, rfl, rfl, rfl, rfl, rfl⟩
  · cases h
    exact ⟨0, true, true, false, false, rfl, rfl, rfl, rfl, rfl, rfl, rfl⟩

/-! ### Every step -/

/-- A step is a law-keeping one, or takes a reset. -/
theorem step_cases (h : step s = .next t) :
    s.Law t ∨ ∃ c rest, s.pending = c :: rest ∧ c.isReset = true ∧ exec c { s with pending := rest } = .next t := by
  unfold step at h
  split at h
  · rename_i c rest hp
    cases hc : c.isReset with
    | true => exact .inr ⟨c, rest, hp, hc, h⟩
    | false => exact .inl ((State.Law.time_queue s s.now rest).trans (.of_exec hc h))
  · cases h
    refine .inl ?_
    unfold State.idle
    refine State.Law.ite (.refl s) ?_ _
    split
    · exact .time_queue s s.now _
    · exact .time_queue s (s.now + 1) s.pending

/-- Settles O13: a step keeps the accumulators' laws, or is a reset, after which no accumulator holds a value. -/
theorem qualityStaysInRangeUnderEveryStep : Obligations.QualityStaysInRangeUnderEveryStep := by
  intro s t hs h
  rcases step_cases h with k | ⟨c, rest, -, hc, he⟩
  · exact k.quality hs
  · obtain ⟨straps, dis, cnl, txinh, cd, hdec, hnm, -⟩ := exec_reset hc he
    unfold State.qualityRight
    rw [hdec, hnm]
    exact State.atPowerOn_quality straps dis cnl txinh cd

/-- Settles O29: a HAUL ENTRY carries list and table together, a close empties both, and nothing else touches them. -/
theorem tallyStaysSummedUnderEveryStep : Obligations.TallyStaysSummedUnderEveryStep := by
  intro s t hs hb h
  rcases step_cases h with k | ⟨c, rest, -, hc, he⟩
  · exact k.tally hs hb
  · obtain ⟨straps, dis, cnl, txinh, cd, -, -, -, -, -, -, htally⟩ := exec_reset hc he
    rw [htally]
    exact State.atPowerOn_tally straps dis cnl txinh cd

/-- Settles O38: what changes the list's part that ALARM looks at refreshes ALARM after it. -/
theorem alarmFollowsTheListUnderEveryStep : Obligations.AlarmFollowsTheListUnderEveryStep := by
  intro s t hs h
  rcases step_cases h with k | ⟨c, rest, -, hc, he⟩
  · exact k.alarm hs
  · obtain ⟨straps, dis, cnl, txinh, cd, -, -, hdis, -⟩ := exec_reset hc he
    unfold State.alarmRight
    rw [hdis]
    exact State.atPowerOn_alarm straps dis cnl txinh cd

/-- Settles O56: with the window closed only a reset opens it, and only CONFIG CLOSED in an open one puts values into
force. -/
theorem configurationHoldsUntilReset : Obligations.ConfigurationHoldsUntilReset := by
  intro s t hw hp h
  rcases step_cases h with k | ⟨c, rest, hq, hc, -⟩
  · exact k.inForce hw
  · rw [hp c rest hq] at hc
    cases hc

/-- Settles O57: every operation of the text store keeps its laws, and CONFIG CLOSED judges the quotas under the default
set. -/
theorem textStoreKeepsItsLawsUnderEveryStep : Obligations.TextStoreKeepsItsLawsUnderEveryStep := by
  intro s t hs h
  rcases step_cases h with k | ⟨c, rest, -, hc, he⟩
  · exact k.store hs
  · obtain ⟨straps, dis, cnl, txinh, cd, -, -, -, hstore, -⟩ := exec_reset hc he
    obtain ⟨hl, -⟩ := State.atPowerOn_store straps dis cnl txinh cd
    unfold State.storeRight
    rw [hstore]
    exact ⟨hl, fun _ => rfl⟩

/-- Settles O58: requests are placed only with an own call, and one comes into force only with CONFIG CLOSED. -/
theorem listenOnlyPartNeverTransmits : Obligations.ListenOnlyPartNeverTransmits := by
  intro s t hs h
  rcases step_cases h with k | ⟨c, rest, -, hc, he⟩
  · exact k.silent hs
  · obtain ⟨straps, dis, cnl, txinh, cd, -, -, -, -, henc, hcfg, -⟩ := exec_reset hc he
    unfold State.listenOnly
    rw [henc, hcfg]
    exact ⟨fun _ => rfl, (State.atPowerOn_listenOnly straps dis cnl txinh cd).2⟩

/-- Settles O59. -/
theorem resetMeetsTheInvariants : Obligations.ResetMeetsTheInvariants := by
  obtain ⟨hsummed, hbounded⟩ := State.atPowerOn_tally 0 true true false false
  exact ⟨State.atPowerOn_quality .., hsummed, hbounded, State.atPowerOn_alarm .., State.atPowerOn_store ..,
    State.atPowerOn_listenOnly ..⟩

end Sys2Proof.Machine
end

section
/-! PROOFS. The step, the state after reset, the two resets, the quality arithmetic (O1, O2, O4, O5, O8), and the requests
and the timer of a part at rest: CANCEL DISTRESS with its 30 s, SET AUX and SET SELECTION (O31, O49). -/

namespace Sys2Proof.Machine

/-! ### The step and the resets -/

/-- Settles O1. -/
theorem stepRunsFrontCommand : Obligations.StepRunsFrontCommand := fun _ _ _ => rfl

/-- Settles O2: an empty queue leaves `State.idle`, whose three branches are the three cases. -/
theorem idleStepTakesDueCommandOrOneMillisecond : Obligations.IdleStepTakesDueCommandOrOneMillisecond := by
  intro s hp
  have hs : step s = .next s.idle := by unfold step; simp only [hp]
  rw [hs, State.idle]
  exact ⟨fun h => by simp [h], fun h c hc => by simp [h, hc], fun h hn => by simp [h, hn]⟩

/-- Settles O4. -/
theorem resetStateOfEveryBlock : Obligations.ResetStateOfEveryBlock := by
  refine ⟨?_, ?_, ?_, ?_, ?_, ?_, ?_, ?_, ?_, ?_, ?_, ?_⟩
  case refine_10 => exact ⟨rfl, fun line => by cases line <;> exact ⟨rfl, rfl⟩⟩
  all_goals exact (by decide)

/-- Every command but the two resets is taken only while RESET is high (R189). -/
theorem exec_taken {c : Instr} (hc : c.isReset = false) (s : State) :
    ∃ u, exec c s = .next (if s.resetLow then s else u) := by
  cases c with
  | powerOn straps dis cnl txinh cd => cases hc
  | resetLow => cases hc
  | _ => exact ⟨_, rfl⟩

/-- Settles O5: neither reset reads anything of the state but the commands waiting. -/
theorem powerOnAndResetLowStartAnew : Obligations.PowerOnAndResetLowStartAnew := by
  refine ⟨fun straps dis cnl txinh cd s => ⟨{ State.atPowerOn straps dis cnl txinh cd with pending := s.pending }, rfl,
    rfl, fun u hu => ?_, rfl, rfl, rfl, rfl, rfl, rfl, rfl, rfl, rfl, rfl, rfl, rfl, ?_⟩,
    fun s => ⟨State.heldInReset s.pending, rfl, rfl, rfl, rfl, rfl, rfl, ?_, rfl, rfl, fun u hu => ?_⟩,
    fun c s hc hlow => ?_⟩
  · rw [← hu]; rfl
  · intro i hi
    interval_cases i <;> rfl
  · intro i hi
    interval_cases i <;> rfl
  · rw [← hu]; rfl
  · obtain ⟨u, hu⟩ := exec_taken hc s
    rw [hu, if_pos hlow]

/-! ### The quality arithmetic -/

theorem sixteen_le_feedQ (q : Nat) {v : Nat} (hv : 1 ≤ v) : 16 ≤ feedQ q v := by
  have h16 : 16 ≤ 16 * v := Nat.le_mul_of_pos_right 16 hv
  rcases Nat.lt_or_ge q 15 with h | h
  · unfold feedQ
    rw [Nat.div_eq_of_lt (h.trans (by decide : 15 < 16)), Nat.sub_zero]
    exact h16.trans (Nat.le_add_left _ q)
  · exact (h16.trans (Nat.le_add_left _ 15)).trans (le_feedQ v h)

theorem lt_feedQ_sixteen {q : Nat} (h : q < 4096) : q < feedQ q 16 :=
  Nat.lt_sub_of_add_lt (Nat.add_lt_add_left (Nat.div_lt_of_lt_mul h) q)

theorem percentOf_le {q : Nat} (h : q ≤ 4096) : percentOf q ≤ 100 :=
  Nat.lt_succ_iff.1 (Nat.div_lt_of_lt_mul
    (Nat.add_lt_add_of_le_of_lt (Nat.mul_le_mul_left 100 h) (by decide : 2048 < 4096)))

theorem framePercent_le {n sum : Nat} (hn : 1 ≤ n) (h : sum ≤ 16 * n) : framePercent n sum ≤ 100 :=
  Nat.lt_succ_iff.1 (Nat.div_lt_of_lt_mul
    ((Nat.add_lt_add_of_le_of_lt (Nat.mul_le_mul_left 100 h)
      (Nat.mul_lt_mul_of_pos_right (by decide : 8 < 16) hn)).trans_eq
      ((Nat.succ_mul 100 (16 * n)).symm.trans (Nat.mul_comm _ _))))

theorem erasureRatio_le {c e : Nat} (h : e ≤ c) : erasureRatio c e ≤ 1000 := by
  rcases Nat.eq_zero_or_pos c with rfl | hc
  · exact Nat.zero_le _
  · unfold erasureRatio
    rw [if_neg hc.ne']
    exact Nat.lt_succ_iff.1 (Nat.div_lt_of_lt_mul
      ((Nat.add_lt_add_of_le_of_lt (Nat.mul_le_mul_left 1000 h) (Nat.div_lt_self hc Nat.one_lt_two)).trans_eq
        ((Nat.succ_mul 1000 c).symm.trans (Nat.mul_comm _ _))))

theorem holdOffOf_bounds (pf own : Nat) : 20 ≤ holdOffOf pf own ∧ holdOffOf pf own ≤ 91 :=
  ⟨(Nat.le_add_right 20 _).trans (Nat.le_add_right _ _),
    Nat.add_le_add
      (Nat.add_le_add_left (Nat.mul_le_mul_left 2 (Nat.div_le_div_right (Nat.sub_le 100 pf) : _ ≤ 25)) 20)
      (Nat.mul_le_mul_left 3 (Nat.le_of_lt_succ (Nat.mod_lt own (Nat.succ_pos 7))))⟩

/-- Settles O8. -/
theorem qualityArithmeticKeepsItsRanges : Obligations.QualityArithmeticKeepsItsRanges :=
  ⟨fun q v hv => ⟨fun h => feedQ_le h hv, fun h => (Nat.le_add_right 15 _).trans (le_feedQ v h),
      sixteen_le_feedQ q, lt_feedQ_sixteen, rfl, rfl⟩,
    fun _ => percentOf_le, rfl, rfl, rfl, fun _ _ hn h => ⟨framePercent_le hn h, frameSample_le ⟨hn, h⟩⟩,
    fun _ _ => erasureRatio_le, fun _ => rfl, fun pf own _ => holdOffOf_bounds pf own, rfl, rfl⟩

/-! ### CANCEL DISTRESS, SET AUX and SET SELECTION -/

/-- Settles O31: the command reads the own state, and the timer is due in CANCEL-PENDING from its moment on. -/
theorem cancelDistressWaitsForItsConfirmation : Obligations.CancelDistressWaitsForItsConfirmation := by
  intro s
  have hexec (r : Request) (ht : s.takes r) (hb : s.bridge r.src) :
      exec (.cancelDistress r) s = .next (s.reqCancelDistress r) := State.taken_bridge ht hb clsCancelDistress _
  refine ⟨fun r ht hb ho => ?_, fun r ht hb ho => ?_, fun c hlow ho hc hle => ?_⟩
  · have hreq : s.reqCancelDistress r = s.beginCancel.result clsCancelDistress r .accepted [] := by
      rcases ho with ho | ho <;> simp only [State.reqCancelDistress, ho]
    rw [hexec r ht hb, hreq]; rfl
  · have hreq : s.reqCancelDistress r = s.result clsCancelDistress r .state [] := by
      rcases ho with ho | ho | ho <;> simp only [State.reqCancelDistress, ho]
    rw [hexec r ht hb, hreq]; rfl
  · have hdue : s.cancelDue = true := by unfold State.cancelDue State.reached; simp [ho, hc, hle]
    exact State.timed_due hlow hdue _

/-- A number of one byte is that byte. -/
theorem numAt_one {params : List Byte} {i : Nat} {b : Byte} (h : params[i]? = some b) :
    numAt params i 1 = some b.toNat := by
  obtain ⟨hi, rfl⟩ := List.getElem?_eq_some_iff.1 h
  rw [numAt, if_pos (Nat.succ_le_of_lt hi), List.take_one_drop_eq_of_lt_length hi]
  simp [beNat]

theorem auxLevelOf_none : ∀ {n : Nat}, 2 < n → auxLevelOf n = none
  | _ + 3, _ => rfl

/-- Settles O49. -/
theorem setAuxAndSelectionReplaceTheirValues : Obligations.SetAuxAndSelectionReplaceTheirValues := by
  intro s r ht
  refine ⟨fun i lv rest hp => ?_, fun subjects areas hb hs ha => ?_⟩
  · have hexec : exec (.setAux r) s = .next (s.reqAux r) := State.taken_request ht (cls := clsAux) rfl _
    have hi : numAt r.params 0 1 = some i.toNat := numAt_one (by rw [hp]; rfl)
    have hl : numAt r.params 1 1 = some lv.toNat := numAt_one (by rw [hp]; rfl)
    rw [hexec, State.reqAux, hi, hl]
    refine ⟨fun hbad => ?_, fun level hle hlev => ⟨fun hown => ?_, fun hown hmode => ?_⟩⟩
    · cases hlev : auxLevelOf lv.toNat with
      | none => simp only [Option.bind_some, hlev]; rfl
      | some level =>
        have hno : ¬i.toNat ≤ 3 := by
          refine hbad.elim Nat.not_le.2 fun h => ?_
          rw [auxLevelOf_none h] at hlev; cases hlev
        simp only [Option.bind_some, hlev, if_neg hno]; rfl
    · have hcode : (s.ownDistress && decide (s.cfg.auxModes.getD i.toNat .hold ≠ .hold)) = false := by
        rcases hown with h | h
        · unfold State.ownDistress
          simp [h]
        · simp only [h]; simp
      simp only [Option.bind_some, hlev, if_pos hle, hcode]; rfl
    · have hcode : (s.ownDistress && decide (s.cfg.auxModes.getD i.toNat .hold ≠ .hold)) = true := by
        rw [Bool.and_eq_true]
        exact ⟨decide_eq_true hown, decide_eq_true hmode⟩
      simp only [Option.bind_some, hlev, if_pos hle, hcode]; rfl
  · have hexec : exec (.setSelection r) s = .next (s.reqSelection r) := State.taken_bridge ht hb clsSelection _
    rw [hexec, State.reqSelection, hs, ha]; rfl

end Sys2Proof.Machine
end

section
/-! PROOFS. The blocks that a function of the model can change, as an equation that names them: what it leaves alone is
then read off. With them the timers of the queues, the bulletin receiver and the catch tally, and the clock (O23, O24,
O27, O28, O40, O41). -/

namespace Sys2Proof.Machine

/-! ### What the link controller's reports change -/

namespace State

/-- The state with another generator and link controller. -/
def withLink (s : State) (gen : Generator) (link : LinkController) : State := { s with gen := gen, link := link }

theorem consider_eq (s : State) : ∃ gen link, s.consider = s.withLink gen link := by
  unfold State.consider
  split
  · split
    · dsimp only
      split <;> exact ⟨_, _, rfl⟩
    · exact ⟨_, _, rfl⟩
  · exact ⟨_, _, rfl⟩

/-- Only IDLE considers. -/
theorem consider_of_not_idle {s : State} (h : s.link.phase ≠ .idle) : s.consider = s := by
  rw [State.consider, if_neg (by simp [h])]

theorem restrictAttempt_eq (s : State) : ∃ gen link, s.restrictAttempt = s.withLink gen link := by
  unfold State.restrictAttempt
  split
  · split
    · obtain ⟨gen, link, h⟩ := s.enterIdle.consider_eq
      exact ⟨gen, link, h⟩
    · exact ⟨_, _, rfl⟩
  · exact ⟨_, _, rfl⟩

/-- An attempt that waits is not one that runs. -/
theorem restrictAttempt_of_running {s : State} (h : s.link.phase.running = true) : s.restrictAttempt = s := by
  have hw : s.link.phase.waiting = false := by
    revert h
    cases s.link.phase <;> decide
  unfold State.restrictAttempt
  split
  · simp [hw]
  · rfl

theorem guardReport_eq (s : State) (before : Bool) :
    ∃ gen link, s.guardReport before = s.withLink gen link := by
  unfold State.guardReport
  split
  · exact s.restrictAttempt_eq
  · exact ⟨_, _, rfl⟩

theorem guardReport_of_running {s : State} (h : s.link.phase.running = true) (before : Bool) :
    s.guardReport before = s := by
  unfold State.guardReport
  rw [State.restrictAttempt_of_running h, ite_self]

/-- A demand to stop sets the pending break reason, or nothing. -/
theorem demandBreak_eq (s : State) (reason : BreakReason) : s.demandBreak reason = { s with link := { s.link with
    pendingBreak := if (s.lowerSession || (reason = .distress && s.link.phase.running)) && s.link.pendingBreak.isNone
      then some reason else s.link.pendingBreak } } := by
  unfold State.demandBreak
  split <;> rfl

/-- The session of a class-0–2 session runs. -/
theorem running_of_lowerSession {s : State} (h : s.lowerSession = true) : s.link.phase.running = true := by
  by_contra hr
  unfold State.lowerSession State.sessionClass at h
  simp [hr] at h

theorem endGrace_eq (s : State) (w : LiveWindow) : ∃ brk, s.endGrace w = { s with link := { s.link with
    pendingBreak := brk } } := by
  rcases s.endGrace_cases w with h | h <;> exact ⟨_, h⟩

end State

/-! ### The queues' and receivers' timers -/

/-- Settles O23: the three timers are due, and only the report of an eligible record reaches another block. -/
theorem queueTimersReportAndDiscard : Obligations.QueueTimersReportAndDiscard := by
  intro s hlow
  refine ⟨fun ref r hr hq hle htold => ?_, fun ref r hr => ?_, fun ⟨x, hx, hle⟩ => ?_⟩
  · have hdue : s.eligibleDue ref = true := by
      unfold State.eligibleDue
      simp [hr, OutRec.eligibleDue, OutRec.eligible, hq, hle, htold]
    have hexec : execNextEligibleReached ref s = .next (s.onOut ref fun r => { r with told := true }).consider :=
      State.timed_due hlow hdue _
    obtain ⟨gen, link, hc⟩ := (s.onOut ref fun r => { r with told := true }).consider_eq
    exact ⟨⟨_, hexec.trans (congrArg _ hc), rfl, rfl, rfl⟩,
      fun hidle => hexec.trans (congrArg _ (State.consider_of_not_idle hidle))⟩
  · have hmatch := List.find?_some hr
    obtain ⟨rfl, -⟩ : r.ref = ref ∧ _ := by simpa using hmatch
    exact (State.timedOn_some hlow hr _ : execPartialExpiry r.ref s = _)
  · have hdue : s.heardDue = true := List.any_eq_true.2 ⟨x, hx, decide_eq_true hle⟩
    have hexec : execHeardListExpiry s = .next s.forgetHeard := State.timed_due hlow hdue _
    have hkeep : (fun h : Heard => !h.expired s.now) = fun h => decide (s.now < h.lastHeard + 259200000) := by
      funext h
      exact (decide_not (p := h.lastHeard + 259200000 ≤ s.now)).symm.trans (decide_eq_decide.2 Nat.not_le)
    refine hexec.trans ?_
    unfold State.forgetHeard State.onBul
    rw [hkeep]

namespace State

theorem settle_eq (s : State) (w : LiveWindow) (st : WindowState) : s.settle w st = { w with
    state := st, heard := false,
    grace := if st = .active && w.win.quiet && s.lowerSession then some (s.now + 180000) else none } := by
  unfold State.settle
  split
  · rename_i h
    unfold State.activate
    simp [h, Config.graceMs]
  · rename_i h
    simp [h]

theorem missedJudgement_eq (s : State) (k : Nat) (w : LiveWindow) : s.missedJudgement k w = { s with
    bul := { s.bul with missed := if w.heard then s.bul.missed else bump s.bul.missed },
    port := if w.heard then s.port else s.port.notice 22 [.num 1 k, .num 3 w.win.coast,
      .text [w.win.origin1, w.win.origin2], .text [w.win.subject], .num 2 w.win.start, .num 1 w.win.duration] } := by
  unfold State.missedJudgement
  cases w.heard <;> rfl

theorem guardReport_bul (s : State) (before : Bool) : (s.guardReport before).bul = s.bul := by
  obtain ⟨gen, link, h⟩ := s.guardReport_eq before
  rw [h]; rfl

theorem guardReport_port (s : State) (before : Bool) : (s.guardReport before).port = s.port := by
  obtain ⟨gen, link, h⟩ := s.guardReport_eq before
  rw [h]; rfl

/-- An ACTIVE window that ends takes its grace to the link controller, and is judged missed or not. -/
theorem windowRun_of_active {s : State} {w : LiveWindow} {st : WindowState} (ha : w.state = .active)
    (hst : st ≠ .active) (k : Nat) : s.windowRun k w st = (((s.endGrace w).missedJudgement k w).putWindow k
      { w with state := st, heard := false, grace := none }).guardReport s.guardOn := by
  have hset (t : State) : t.settle w st = { w with state := st, heard := false, grace := none } := by
    rw [State.settle_eq, if_neg]
    simp [hst]
  rw [State.windowRun, if_neg (by rw [ha]; exact hst.symm), if_pos ha]
  dsimp only
  rw [hset]

/-- Any other window takes the state its spans give. -/
theorem windowRun_of_not_active {s : State} {w : LiveWindow} {st : WindowState} (ha : w.state ≠ .active)
    (hst : w.state ≠ st) (k : Nat) : s.windowRun k w st = (s.putWindow k (s.settle w st)).guardReport s.guardOn := by
  unfold State.windowRun
  rw [if_neg hst, if_neg ha]

end State

/-- Settles O24: a window that was not ACTIVE has nothing to end, and one that was takes its grace to the link controller
before the missed judgement. -/
theorem windowBoundaryAndGraceAct : Obligations.WindowBoundaryAndGraceAct := by
  refine ⟨fun s k tod w hlow hk hw htod hst => ?_, fun s k g w hlow hk hw hg hle => ?_⟩
  · have hdue : s.windowDue k = true := by unfold State.windowDue; simp [htod, hw, hk, hst]
    have hat : s.crossWindow k = s.windowRun k w (w.win.stateAt tod) := by
      unfold State.crossWindow State.windowAt
      simp only [htod, hw]
    have hexec : execWindowBoundary k s = .next (s.windowRun k w (w.win.stateAt tod)) :=
      (State.timed_due hlow hdue _).trans (congrArg _ hat)
    intro missed
    refine ⟨_, hexec, ?_⟩
    by_cases ha : w.state = .active
    · have hna : w.win.stateAt tod ≠ .active := fun h => hst (h.trans ha.symm)
      have hm : missed = !w.heard := by simp [missed, ha]
      have hg : (w.win.stateAt tod = .active && w.win.quiet && s.lowerSession) = false := by simp [hna]
      obtain ⟨brk, hb⟩ := s.endGrace_eq w
      rw [State.windowRun_of_active ha hna, State.guardReport_bul, State.guardReport_port, hm, hg,
        State.missedJudgement_eq]
      refine ⟨by rw [hb]; cases w.heard <;> rfl, by rw [hb]; cases w.heard <;> rfl, fun _ hl => ?_⟩
      rw [State.guardReport_of_running (by rw [hb]; exact State.running_of_lowerSession hl)]
      refine ⟨fun g hg hle hn => ?_, fun hlt => ?_⟩
      · have hout : w.graceOut s.now = true := by unfold LiveWindow.graceOut; simp [hg, hle]
        change (s.endGrace w).link.pendingBreak = _
        unfold State.endGrace
        rw [if_pos hout, State.demandBreak_eq]
        simp [hl, hn]
      · have hout : w.graceOut s.now = false := by
          cases hg : w.grace <;> simp [LiveWindow.graceOut, hg, hlt]
        change (s.endGrace w).link = _
        rw [State.endGrace, if_neg (by simp [hout])]
    · have hm : missed = false := by simp [missed, ha]
      rw [State.windowRun_of_not_active ha (Ne.symm hst), State.guardReport_bul, State.guardReport_port, hm,
        State.settle_eq]
      exact ⟨rfl, rfl, fun h => absurd h ha⟩
  · have hdue : s.graceDue k = true := by unfold State.graceDue; simp [hw, hk, LiveWindow.graceOut, hg, hle]
    have hover : s.graceOver k = (s.putWindow k { w with grace := none }).demandBreak .window := by
      unfold State.graceOver
      simp only [hw]
    refine ((State.timed_due hlow hdue _).trans (congrArg _ hover) : execGraceExpiry k s = _).trans ?_
    rw [State.demandBreak_eq]
    simp only [reduceCtorEq, decide_false, Bool.false_and, Bool.or_false]
    rfl

/-! ### The catch tally's timers -/

/-- Settles O27: a retry whose close the queues refuse with the cause it has only waits again. -/
theorem catchTimersRetryAndAnnounce : Obligations.CatchTimersRetryAndAnnounce := by
  refine ⟨fun s p hlow hp hle hwhy => ?_, fun s serial w hlow hw => ?_⟩
  · have hdue : s.retryDue = some p := by unfold State.retryDue; simp [hp, hle]
    have hexec : execCloseRetry s = .next (s.retryClose p) := State.timedOn_some hlow hdue _
    have hretry : s.retryClose p = { s with tally := { s.tally with
        pending := some { p with retryAt := s.now + 60000 } } } := by
      unfold State.retryClose
      split
      · next own office hown hoffice =>
        obtain ⟨hfull, hcause⟩ : 16 ≤ s.q.out.length ∧ p.cause = .queue := by simpa [hown, hoffice] using hwhy
        have hask : s.askReport office = (.error .queue, s) := by
          simp only [State.askReport, State.reportRefusal, if_pos hfull]
        simp only [hask, hcause, if_pos]
        rw [← hcause]
        rfl
      · rfl
    exact hexec.trans (congrArg _ hretry)
  · obtain ⟨rfl, -⟩ : w.serial = serial ∧ _ := by simpa using List.find?_some hw
    exact (State.timedOn_some hlow hw _ : execReportOverdue w.serial s = _)

set_option Elab.async false in
/-- Settles O28: the entry is judged by R140's order, and carried into list and table together. -/
theorem haulEntryIsJudgedInOrder : Obligations.HaulEntryIsJudgedInOrder := by
  intro s r ht
  have hexec : exec (.haulEntry r) s = .next (s.reqHaul r) := State.taken_request ht (cls := clsHaul) rfl _
  refine ⟨fun hno => ?_, fun h serial hof => ⟨fun hbad => ?_, fun hok hne hlate => ?_, fun hok hser => ?_⟩⟩
  · rw [hexec]
    unfold State.reqHaul
    simp only [hno]
    rfl
  · rw [hexec]
    unfold State.reqHaul
    simp only [hof, hbad]
    rfl
  · rw [hexec]
    unfold State.reqHaul
    simp [hof, hok, hne, hlate]
    rfl
  · have hin : (!(decide (serial = 0) || decide (serial = s.tally.serial))) = false := by
      simpa [← or_iff_not_imp_left] using hser
    have hfull (hap : s.tally.apply h = none) : exec (.haulEntry r) s = .next (s.result clsHaul r .full []) := by
      rw [hexec]
      unfold State.reqHaul
      simp only [hof, hok, hin, hap, Bool.not_true, Bool.false_eq_true, if_false]
    have hdone {did : HaulDone} {t : CatchTally} (hap : s.tally.apply h = some (did, t)) : exec (.haulEntry r) s =
        .next (State.result { s with tally := t } clsHaul r .done
          ([.num 1 did.ctorIdx, .num 2 t.serial, .num 1 t.hauls.length, .num 1 t.rows.length] ++ rowItems t.rows h)) := by
      rw [hexec]
      unfold State.reqHaul
      simp only [hof, hok, hin, hap, Bool.not_true, Bool.false_eq_true, if_false]
    intro done added
    refine ⟨fun hnew => ⟨fun h0 => ?_, fun hpos hno => ?_, fun hpos hroom hrows => ?_⟩,
      fun old hold => ⟨fun h0 => ?_, fun hpos hno => ?_, fun hpos hrows => ?_⟩⟩
    · have hap : s.tally.apply h = some (.nothing, s.tally) := by unfold CatchTally.apply; simp [hnew, h0]
      exact hdone hap
    · have hap : s.tally.apply h = none := by
        rcases hno with hl | hl <;> simp [CatchTally.apply, hnew, Nat.ne_of_gt hpos, hl, added]
      exact hfull hap
    · have hap : s.tally.apply h = some (.added,
          { s.tally with hauls := insertBy Haul.before h s.tally.hauls, rows := added }) := by
        unfold CatchTally.apply
        simp [hnew, Nat.ne_of_gt hpos, Nat.not_le.2 hroom, Nat.not_lt.2 hrows, added]
      exact hdone hap
    · have hap : s.tally.apply h = some (.withdrawn,
          { s.tally with hauls := s.tally.without h, rows := takeFromRows s.tally.rows old }) := by
        unfold CatchTally.apply
        simp [hold, h0]
      exact hdone hap
    · have hap : s.tally.apply h = none := by unfold CatchTally.apply; simp [hold, Nat.ne_of_gt hpos, hno]
      exact hfull hap
    · have hap : s.tally.apply h = some (.replaced, { s.tally with
          hauls := insertBy Haul.before h (s.tally.without h), rows := addToRows (takeFromRows s.tally.rows old) h }) := by
        unfold CatchTally.apply
        simp [hold, Nat.ne_of_gt hpos, Nat.not_lt.2 hrows]
      exact hdone hap

/-! ### The clock -/

namespace State

/-- The command of a frame from another station. -/
theorem taken_fromBus {s : State} {src : Byte} (h : s.hears src) (f : State → State) :
    (s.taken fun t => t.fromBus src f) = .next (f s) :=
  (State.taken_high h.1 _).trans (congrArg _ (State.fromBus_hears h f))

/-- What a clock step's window judgements leave alone, of what the clock reads and what it may reach. -/
def held (s : State) : Nat × Clock × Encoder × Distress × TextStore := (s.now, s.clock, s.enc, s.dis, s.store)

theorem endGrace_held (s : State) (w : LiveWindow) : (s.endGrace w).held = s.held := by
  obtain ⟨brk, h⟩ := s.endGrace_eq w
  exact (congrArg held h).trans rfl

theorem missedJudgement_held (s : State) (k : Nat) (w : LiveWindow) : (s.missedJudgement k w).held = s.held :=
  (apply_ite held _ _ _).trans (ite_self _)

theorem windowStep_held (s : State) (k : Nat) (w : LiveWindow) (old : Nat) (forward : Bool) (delta : Nat) :
    (s.windowStep k w old forward delta).held = s.held := by
  unfold windowStep
  split
  · dsimp only
    split
    · split
      · exact (missedJudgement_held _ _ _).trans (s.endGrace_held w)
      · split
        · exact s.endGrace_held w
        · rfl
    · rfl
  · rfl

theorem stepFrom_held (old : Nat) (forward : Bool) (delta k : Nat) (ws : List LiveWindow) (s : State) :
    (stepFrom old forward delta k ws s).held = s.held := by
  induction ws generalizing k s with
  | nil => rfl
  | cons w ws ih => exact (ih _ _).trans (s.windowStep_held k w old forward delta)

theorem stepWindows_held (s : State) (old : Nat) (forward : Bool) (delta : Nat) :
    (s.stepWindows old forward delta).held = s.held := by
  obtain ⟨gen, link, h⟩ := (stepFrom old forward delta 1 s.bul.windows s).guardReport_eq s.guardOn
  exact (congrArg held h).trans (stepFrom_held _ _ _ _ _ _)

/-- What the clock is read from. -/
def clockNow (s : State) : Nat × Clock := (s.now, s.clock)

/-- `State.reading`, from what it is read from. -/
def readingAt (x : Nat × Clock) : Option Reading := x.2.ref.map fun c => readingOf (c.at x.1)

theorem createOut_clockNow (s : State) (dest cls length : Nat) (serial : Option Nat) (st : OutState) :
    (s.createOut dest cls length serial st).2.clockNow = s.clockNow := by
  unfold createOut
  dsimp only
  split <;> rfl

theorem askReport_clockNow (s : State) (dest : Nat) : (s.askReport dest).2.clockNow = s.clockNow := by
  have hcreate := s.createOut_clockNow dest 1 (reportLength s.tally.rows.length) (some s.tally.serial) .intake
  unfold askReport
  dsimp only
  split
  · rfl
  · rfl
  · rfl
  · split
    · next h => exact (congrArg (fun x : _ × State => x.2.clockNow) h).symm.trans hcreate
    · next h => exact (congrArg (fun x : _ × State => x.2.clockNow) h).symm.trans hcreate

/-- A record queued is QUEUED and considered. -/
theorem queueRecord_eq (s : State) (ref : Nat) : ∃ gen link, s.queueRecord ref = { s with
    gen := gen, link := link,
    q := { s.q with out := s.q.out.map fun r => if r.ref = ref then { r with state := .queued, told := true } else r } } :=
  (s.onOut ref fun r => { r with state := .queued, told := true }).consider_eq

theorem makeClose_clockNow (s : State) (own ref : Nat) (source : CloseSource) (pending : Option PendingClose) :
    (s.makeClose own ref source pending).clockNow = s.clockNow := by
  obtain ⟨gen, link, h⟩ := State.queueRecord_eq (s.onStore fun st => st.write (.out ref)
    (reportText own s.tally.serial s.tod s.tally.rows)) ref
  exact (congrArg clockNow h).trans rfl

theorem askHourClose_clockNow (s : State) : s.askHourClose.clockNow = s.clockNow := by
  unfold askHourClose
  split
  · next own office _ _ =>
    have hask := s.askReport_clockNow office
    split
    · rfl
    · split
      · next h =>
        rw [h] at hask
        exact (makeClose_clockNow _ _ _ _ _).trans hask
      · next h =>
        rw [h] at hask
        exact hask
  · rfl

theorem evaluateHour_clockNow (s : State) : s.evaluateHour.clockNow = s.clockNow := by
  unfold evaluateHour
  split
  · exact askHourClose_clockNow _
  · rfl

theorem armHourClose_eq (s : State) : ∃ tally, s.armHourClose = { s with tally := tally } := by
  unfold State.armHourClose
  split <;> exact ⟨_, rfl⟩

end State

theorem timeValue_eq (day : BitVec 16) (seconds : BitVec 24) :
    timeValue day seconds = 1000 * (day.toNat * 86400 + seconds.toNat) := by
  unfold timeValue
  rw [Nat.mul_add, Nat.mul_comm 1000 seconds.toNat, Nat.mul_left_comm]
  rfl

/-- The reading of a setting taken now is the TIME's own day and seconds. -/
theorem readingOf_timeValue (day : BitVec 16) {seconds : BitVec 24}
    (h : seconds.toNat ≤ 86399) :
    readingOf ((timeValue day seconds + 0) % cycleDaysMs) = { day := day.toNat, secs := seconds.toNat } := by
  have hms : seconds.toNat * 1000 < dayMs := Nat.lt_of_le_of_lt (Nat.mul_le_mul_right 1000 h) (by decide)
  have hlt : timeValue day seconds < cycleDaysMs :=
    Nat.lt_of_lt_of_le (Nat.add_lt_add_left hms _)
      ((Nat.succ_mul day.toNat dayMs).symm.trans_le (Nat.mul_le_mul_right dayMs day.isLt))
  have hday : timeValue day seconds / dayMs = day.toNat := by
    unfold timeValue
    rw [Nat.add_comm, Nat.add_mul_div_right _ _ (by decide : 0 < dayMs), Nat.div_eq_of_lt hms, Nat.zero_add]
  have hsecs : timeValue day seconds / 1000 % 86400 = seconds.toNat := by
    rw [timeValue_eq, Nat.mul_div_cancel_left _ (by decide : 0 < 1000), Nat.add_comm, Nat.add_mul_mod_self_right]
    exact Nat.mod_eq_of_lt (Nat.lt_succ_of_le h)
  rw [Nat.add_zero, Nat.mod_eq_of_lt hlt, readingOf, hday, hsecs]

set_option Elab.async false in
/-- Settles O40: which of the three a TIME is, and that a step's report to the windows and the hour close leaves the clock
as it has been set. -/
theorem timeIsJudgedAtItsArrival : Obligations.TimeIsJudgedAtItsArrival := by
  intro s src day seconds hh
  have hexec : exec (.time src day seconds) s = .next (s.takeTime day seconds) := State.taken_fromBus hh _
  intro secs cycle since now
  have hvalue : timeValue day seconds = 1000 * secs := timeValue_eq day seconds
  have hreading (k : Clock) (hk : k.ref = some (s.refAt (1000 * secs))) (hok : seconds.toNat ≤ 86399) :
      State.readingAt (s.now, k) = some { day := day.toNat, secs := seconds.toNat } := by
    rw [State.readingAt, hk, ← readingOf_timeValue day hok, hvalue, Option.map_some, ClockRef.at, State.refAt,
      Nat.sub_self, Nat.sub_zero]
  refine ⟨fun hbad => ?_, fun hok hnone => ?_, fun c hc hok => ?_⟩
  · exact hexec.trans (congrArg _ (if_pos hbad))
  · have hset : s.takeTime day seconds = s.firstSetting (1000 * secs) := by
      unfold State.takeTime
      simp only [if_neg (Nat.not_lt.2 hok), hnone, hvalue]
    refine ⟨_, hexec.trans (congrArg _ hset), ?_⟩
    unfold State.firstSetting
    have hw := (s.timeTaken (s.refAt (1000 * secs))).stepWindows_held (1000 * secs) true 0
    obtain ⟨tally, ha⟩ := State.armHourClose_eq
      (State.stepWindows (s.timeTaken (s.refAt (1000 * secs))) (1000 * secs) true 0)
    rw [ha]
    have hread : State.readingAt _ = _ := (congrArg (fun x => State.readingAt (x.1, x.2.1)) hw).trans (hreading _ rfl hok)
    exact ⟨congrArg (fun x => x.2.1) hw, hread,
      congrArg (fun x => x.2.2.1) hw, congrArg (fun x => x.2.2.2.1) hw, congrArg (fun x => x.2.2.2.2) hw⟩
  · intro reading d ahead counted
    have hsecs : cycleSecs = cycle := rfl
    have hms : cycleDaysMs = 1000 * cycle := by norm_num [cycleDaysMs, dayMs, cycle]
    have hhalf : cycleDaysMs / 2 = 500 * cycle := by norm_num [cycleDaysMs, dayMs, cycle]
    have hahead : (1000 * secs + cycleDaysMs - reading) % cycleDaysMs = ahead := by rw [hms]
    have htime : s.takeTime day seconds = if d ≤ 2 || cycle - 2 ≤ d then s.correct reading (1000 * secs)
        else s.stepClock reading (1000 * secs) (d ≤ cycle / 2) := by
      unfold State.takeTime
      rw [if_neg (Nat.not_lt.2 hok), hvalue]
      simp only [hc, hsecs, Nat.mul_div_cancel_left secs (Nat.succ_pos 999)]
      rfl
    refine ⟨fun hnear => ⟨fun hf => ?_, fun hb => ?_⟩, fun hlo hhi => ?_⟩
    · rw [hexec, htime, if_pos (by simpa using hnear), State.correct]
      simp only [hahead, hhalf, if_pos hf]
      rfl
    · rw [hexec, htime, if_pos (by simpa using hnear), State.correct]
      simp only [hahead, hhalf, if_neg (Nat.not_le.2 hb)]
      rw [hms]
      rfl
    · rw [if_neg (fun h => (Bool.or_eq_true_iff.1 h).elim (fun h => Nat.not_le.2 hlo (of_decide_eq_true h))
        fun h => Nat.not_le.2 hhi (of_decide_eq_true h))] at htime
      have hclock : (s.stepClock reading (1000 * secs) (d ≤ cycle / 2)).clockNow = (s.now, { s.clock with
          ref := some (s.refAt (1000 * secs)), synced := true, lastTime := some s.now
          steps := bump s.clock.steps }) :=
        (State.evaluateHour_clockNow _).trans (congrArg (fun x => (x.1, x.2.1)) (State.stepWindows_held _ _ _ _))
      exact ⟨_, hexec.trans (congrArg _ htime), congrArg Prod.snd hclock,
        (congrArg State.readingAt hclock).trans (hreading _ rfl hok)⟩

theorem natAbs_le_iff {x : Int} {n : Nat} : x.natAbs ≤ n ↔ -(n : Int) ≤ x ∧ x ≤ n := by
  rw [← Int.ofNat_le, Int.natCast_natAbs, abs_le]

/-- Settles O41: the reading is the value at the last setting and the time since, in the cycle of 65536 days. -/
theorem clockRunsAndPositionIsHeld : Obligations.ClockRunsAndPositionIsHeld := by
  refine ⟨fun s c k hc hstand hle => ?_, fun s t hlow hsync ht hle => ?_,
    fun s src lat lon hh => ⟨fun h => ?_, fun h => ?_⟩⟩
  · have hat : c.at (s.now + k) = (c.at s.now + k) % (65536 * 86400000) := by
      unfold ClockRef.at
      simp only [hstand, Nat.sub_zero]
      rw [Nat.sub_add_comm hle, ← Nat.add_assoc]
      exact (Nat.mod_add_mod _ _ _).symm
    unfold State.reading
    simp only [hc, Option.map_some, hat]
  · have hdue : s.lapseDue = true := by unfold State.lapseDue; simp [hsync, ht, Config.syncMs, hle]
    exact (State.timed_due hlow hdue _ : execSyncLapse s = _)
  all_goals
    have hexec : execPosition src lat lon s = .next (s.takePosition lat lon) :=
      State.taken_fromBus hh _
  · exact hexec.trans (congrArg _ (if_pos ⟨natAbs_le_iff.2 ⟨h.1, h.2.1⟩, natAbs_le_iff.2 h.2.2⟩))
  · refine hexec.trans (congrArg _ (if_neg fun hin => ?_))
    obtain ⟨hlat1, hlat2⟩ := natAbs_le_iff.1 hin.1
    obtain ⟨hlon1, hlon2⟩ := natAbs_le_iff.1 hin.2
    rcases h with h | h | h | h
    · exact Int.not_le.2 h hlat1
    · exact Int.not_le.2 h hlat2
    · exact Int.not_le.2 h hlon1
    · exact Int.not_le.2 h hlon2

end Sys2Proof.Machine
end

section
/-! PROOFS. The vessel bus port: which frames it takes, the outgoing frame queue, the intake of a message's text and the
readouts (O43, O44, O45, O47, O48). -/

namespace Sys2Proof.Machine

/-! ### Frames from alike stations, malformed frames, and the access list -/

/-- What a frame that fits does is what its command does. -/
theorem exec_of_command {s : State} {f : CanFrame} {c : Instr} (hh : s.hears f.src) (h : f.command = some c) :
    exec c s = .next (s.takeFrame c) := by
  rcases CanFrame.command_cases h with ⟨day, secs, rfl⟩ | ⟨lat, lon, rfl⟩ | ⟨seq, bytes, rfl⟩ |
    ⟨r, index, hr, rfl⟩ | ⟨cls, r, count, hr, rfl⟩
  · exact State.taken_fromBus hh _
  · exact State.taken_fromBus hh _
  · exact State.taken_fromBus hh _
  · exact State.taken_fromBus (hr.symm ▸ hh) _
  · exact State.taken_fromBus (hr.symm ▸ hh) _

namespace State

/-- A frame from a station strapped alike is counted, whatever it would have done. -/
theorem taken_alike {s : State} {src : Byte} (hlow : s.resetLow = false) (h : src = s.port.station)
    (f : State → State) : (s.taken fun t => t.fromBus src f) =
      .next { s with port := { s.port with duplicates := bump s.port.duplicates } } := by
  rw [State.taken_high hlow, State.fromBus, if_neg (by simp [hlow]), if_pos h]

/-- A frame that fits no command of the port's own, once it is from another station. -/
theorem malformed_of_other {s : State} {f : CanFrame} (hlow : s.resetLow = false) (hsrc : f.src ≠ s.port.station) :
    exec (.malformedFrame f) s = .next (if f.dest = s.port.station || (f.dest = 255 && isBroadcast f) then
      match f.command with
      | some c => s.takeFrame c
      | none => s.countMalformed
      else s) :=
  (State.taken_fromBus ⟨hlow, hsrc⟩ _ : (s.taken fun t => t.fromBus f.src _) = _)

end State

/-- Settles O43: the port's three tests on a frame, and its one on a request. -/
theorem portRefusesWhatItMayNotTake : Obligations.PortRefusesWhatItMayNotTake := by
  refine ⟨fun s hlow => ?_, fun s r ht => ⟨fun hb => ?_, fun hb => ?_⟩⟩
  · refine ⟨fun _ _ => State.taken_alike hlow rfl _, fun _ _ => State.taken_alike hlow rfl _,
      fun _ _ => State.taken_alike hlow rfl _, fun _ _ _ h => State.taken_alike hlow h _,
      fun _ _ h => State.taken_alike hlow h _,
      fun r h => ⟨State.taken_alike hlow h _, State.taken_alike hlow h _, State.taken_alike hlow h _,
        State.taken_alike hlow h _, State.taken_alike hlow h _⟩,
      fun f hd hsrc hc => ?_, fun f h => State.taken_alike hlow h _, fun f hsrc hd hd' => ?_,
      fun f hsrc hd ht hp => ?_, fun f c hsrc hc hd => ?_⟩
    · rw [State.malformed_of_other hlow hsrc, if_pos (by simp [hd]), hc]
      rfl
    · rw [State.malformed_of_other hlow hsrc, if_neg (by simp [hd, show ¬ f.dest = 255#8 from hd'])]
    · have hb : isBroadcast f = false := by unfold isBroadcast; simp [show ¬ f.cls = 16#10 from ht, show ¬ f.cls = 17#10 from hp]
      rw [State.malformed_of_other hlow hsrc, if_neg (by simp [hd, hb])]
    · rw [State.malformed_of_other hlow hsrc, if_pos (by simpa [isBroadcast] using hd), hc,
        exec_of_command ⟨hlow, hsrc⟩ hc]
  · exact ⟨State.taken_bridge ht hb clsRaise _, State.taken_bridge ht hb clsCancelDistress _,
      State.taken_bridge ht hb clsAck _, State.taken_bridge ht hb clsSelection _, State.taken_bridge ht hb clsRestart _⟩
  · have hno {cls : Nat} (hcls : bridgeOnly cls = true) (owner : State → Request → State) :
        (s.taken fun t => t.request cls r owner) = .next (State.result
          { s with port := { s.port with accessRefusals := bump s.port.accessRefusals } } cls r .notAllowed []) := by
      have he : s.entitled cls r = false := by
        obtain ⟨hne, hmem⟩ := not_or.1 hb
        simp [State.entitled, hcls, hne, hmem]
      rw [State.taken_high ht.1.1, State.request_refused ht he]
    exact ⟨hno (cls := clsRaise) rfl _, hno (cls := clsCancelDistress) rfl _, hno (cls := clsAck) rfl _,
      hno (cls := clsSelection) rfl _, hno (cls := clsRestart) rfl _⟩

/-! ### The outgoing frame queue -/

namespace Port

/-- The next message waiting is started, or none. -/
theorem startNext_eq (p : Port) : ∃ current waiting, p.startNext = { p with
    current := current, waiting := waiting } := by
  unfold Port.startNext
  repeat' split
  all_goals exact ⟨_, _, rfl⟩

theorem place_eq (p : Port) (m : OutMsg) : ∃ current waiting lost, p.place m = { p with
    current := current, waiting := waiting, lost := lost } := by
  unfold Port.place
  split
  · obtain ⟨current, waiting, h⟩ := Port.startNext_eq { p with waiting := p.waiting ++ [m] }
    exact ⟨current, waiting, _, h⟩
  · exact ⟨_, _, _, rfl⟩

theorem notice_eq (p : Port) (code : Nat) (content : List Field) : ∃ current waiting lost serial,
    p.notice code content = { p with current := current, waiting := waiting, lost := lost, serial := serial } := by
  obtain ⟨current, waiting, lost, h⟩ := p.place_eq
    { kind := .notice code (urgentCode code) p.serial, content := content, carried := 0 }
  simp only [Port.notice, h]
  split <;> exact ⟨_, _, _, _, rfl⟩

/-- While a message is being sent, or sending is stopped, none is started. -/
theorem startNext_of_held {p : Port} (h : p.stopped = true ∨ p.current ≠ none) : p.startNext = p := by
  unfold Port.startNext
  rw [if_pos]
  simpa [Option.isSome_iff_ne_none] using h

end Port

theorem pickFirst_eq_none {p : OutMsg → Bool} {ms : List OutMsg} (h : ∀ m ∈ ms, p m = false) : pickFirst p ms = none := by
  induction ms with
  | nil => rfl
  | cons m ms ih =>
    obtain ⟨hm, hms⟩ := List.forall_mem_cons.1 h
    unfold pickFirst
    simp [hm, ih hms]

/-- The message picked is one of the list that meets the test. -/
theorem pickFirst_of_mem {p : OutMsg → Bool} {ms : List OutMsg} (h : ∃ m ∈ ms, p m = true) :
    ∃ x rest, pickFirst p ms = some (x, rest) ∧ p x = true := by
  induction ms with
  | nil => simp at h
  | cons m ms ih =>
    by_cases hm : p m = true
    · exact ⟨m, ms, by unfold pickFirst; simp [hm], hm⟩
    · obtain ⟨x, rest, hpick, hx⟩ := ih (by simpa [hm] using h)
      exact ⟨x, m :: rest, by unfold pickFirst; simp [hm, hpick], hx⟩

/-- A frame carried with its message started counts toward the message, and toward a readout. -/
theorem exec_frameCarried {s : State} {m : OutMsg} (hlow : s.resetLow = false) (hd : s.port.droppedAt ≠ some s.now)
    (hm : s.port.current = some m) {f : Port → State}
    (hf : State.readoutCarried { s with port := s.port.carry m } m.kind = f (s.port.carry m)) :
    exec .frameCarried s = .next (f (if m.carried + 1 < m.frames
      then { s.port with current := some { m with carried := m.carried + 1 } }
      else Port.startNext { s.port with current := none })) := by
  have hcarry : s.carried = f (s.port.carry m) := by
    rw [← hf]
    simp only [State.carried, if_neg hd, hm]
  refine (State.taken_high hlow State.carried : s.taken _ = _).trans (congrArg _ (hcarry.trans (congrArg f ?_)))
  unfold Port.carry
  simp only [← Nat.not_lt, ite_not]

theorem Port.carry_readout (p : Port) (m : OutMsg) : (p.carry m).readout = p.readout := by
  unfold Port.carry
  split
  · obtain ⟨current, waiting, h⟩ := Port.startNext_eq { p with current := none }
    rw [h]
  · rfl

namespace State

theorem readoutCarried_none {t : State} (h : t.port.readout = none) (k : OutKind) : t.readoutCarried k = t := by
  unfold readoutCarried
  rw [h]

/-- A frame of another message starts the open readout's 5 s again. -/
theorem readoutCarried_other {t : State} {x : Readout} (h : t.port.readout = some x) :
    ∀ {m : OutMsg}, m.ofReadout = false →
      t.readoutCarried m.kind = { t with port := { t.port with readout := some { x with carriedAt := t.now } } }
  | ⟨.result .., _, _⟩, _ => by rw [readoutCarried, h]
  | ⟨.notice .., _, _⟩, _ => by rw [readoutCarried, h]

theorem readoutCarried_text {t : State} {x : Readout} (h : t.port.readout = some x) {k : OutKind} {dest seq : Byte}
    {codes : List Nat} (hk : k = .readoutText dest seq codes) : t.readoutCarried k =
      { t with port := { t.port with readout := some { x with carriedAt := t.now, waiting := x.waiting - 1 } } } := by
  rw [hk, readoutCarried, h]

theorem readoutCarried_end {t : State} {x : Readout} (h : t.port.readout = some x) {k : OutKind} {dest tag : Byte}
    {chars fragments : Nat} (hk : k = .endOfText dest tag chars fragments) : t.readoutCarried k =
      State.readoutEnded { t with port := { t.port with readout := none } } x.key true := by
  rw [hk, readoutCarried, h]

theorem bulReadEnd_whole (s : State) (n : Nat) : s.bulReadEnd n true = { s with bul := { s.bul with
    recs := s.bul.recs.map fun y => if y.index = n then { y with state := .held, read := true } else y } } := by
  unfold bulReadEnd
  simp only [Bool.or_true]
  rfl

end State

namespace Port

theorem startNext_first {p : Port} {m : OutMsg} {rest : List OutMsg} (hs : p.stopped = false) (hc : p.current = none)
    (hw : p.waiting = m :: rest) (hfirst : (∀ x ∈ rest, x.urgent = false) ∨ m.urgent = true) :
    p.startNext = { p with current := some m, waiting := rest } := by
  have hopen : (p.stopped || p.current.isSome) = false := by rw [hs, hc]; rfl
  unfold startNext
  rw [hopen, hw]
  cases hm : m.urgent with
  | true => unfold pickFirst
            simp only [hm]; rfl
  | false =>
    have hnone := hfirst.resolve_right (by rw [hm]; exact Bool.false_ne_true)
    unfold pickFirst
    simp only [hm, pickFirst_eq_none hnone]
    rfl

theorem startNext_urgent {p : Port} (hs : p.stopped = false) (hc : p.current = none)
    (hurgent : ∃ x ∈ p.waiting, x.urgent = true) : ∃ x, p.startNext.current = some x ∧ x.urgent = true := by
  obtain ⟨x, left, hpick, hx⟩ := pickFirst_of_mem hurgent
  have hopen : (p.stopped || p.current.isSome) = false := by rw [hs, hc]; rfl
  refine ⟨x, ?_, hx⟩
  unfold startNext
  rw [hopen, hpick]
  rfl

end Port

/-- Settles O48: the queue's three operations, and what a frame carried does for the readout it is of. -/
theorem outgoingQueueSendsWholeMessages : Obligations.OutgoingQueueSendsWholeMessages :=
  ⟨fun s hlow => ⟨(State.taken_high hlow _ : execSendingStops s = _),
      (State.taken_high hlow _ : execSendingResumes s = _),
      fun hd hm => (State.taken_high hlow State.carried : s.taken _ = _).trans
        (congrArg _ (by simp only [State.carried, if_neg hd, hm])),
      fun m hd hm => ⟨
        fun hro => exec_frameCarried hlow hd hm (f := fun p => { s with port := p })
          (State.readoutCarried_none ((s.port.carry_readout m).trans hro) _),
        fun x hro => ⟨
          fun hother => exec_frameCarried hlow hd hm
            (f := fun p => { s with port := { p with readout := some { x with carriedAt := s.now } } })
            (State.readoutCarried_other ((s.port.carry_readout m).trans hro) hother),
          fun dest seq codes hk => exec_frameCarried hlow hd hm
            (f := fun p => { s with port := { p with
              readout := some { x with carriedAt := s.now, waiting := x.waiting - 1 } } })
            (State.readoutCarried_text ((s.port.carry_readout m).trans hro) hk),
          fun dest tag chars fragments hk => ⟨
            fun n hkey => exec_frameCarried hlow hd hm
              (f := fun p => State.bulReadEnd { s with port := { p with readout := none } } n true)
              ((State.readoutCarried_end ((s.port.carry_readout m).trans hro) hk).trans (by rw [hkey]; rfl))
              |>.trans (congrArg _ (State.bulReadEnd_whole _ n)),
            fun n hkey => exec_frameCarried hlow hd hm
              (f := fun p => State.incReadDone { s with port := { p with readout := none } } n)
              ((State.readoutCarried_end ((s.port.carry_readout m).trans hro) hk).trans (by rw [hkey]; rfl))⟩⟩⟩⟩,
    fun p => ⟨Port.startNext_of_held,
      fun _ _ hs hc hw => ⟨Port.startNext_first hs hc hw, Port.startNext_urgent hs hc⟩,
      fun m => ⟨fun hfull => if_neg (by unfold Port.fits; simp [hfull]),
        fun hroom hheld => (if_pos (by unfold Port.fits; simp [hroom])).trans (Port.startNext_of_held hheld)⟩⟩⟩

/-! ### The intake of a message's text -/

namespace State

/-- A result changes nothing of the port but its outgoing frame queue. -/
theorem result_eq (s : State) (cls : Nat) (r : Request) (code : ResultCode) (content : List Field) :
    ∃ current waiting lost, s.result cls r code content = { s with port := { s.port with
      current := current, waiting := waiting, lost := lost } } := by
  obtain ⟨current, waiting, lost, h⟩ := s.port.place_eq
    { kind := .result r.src r.tag code.ctorIdx cls, content := content, carried := 0 }
  exact ⟨current, waiting, lost, congrArg (fun p => { s with port := p }) h⟩

theorem result_intake (s : State) (cls : Nat) (r : Request) (code : ResultCode) (content : List Field) :
    (s.result cls r code content).port.intake = s.port.intake := by
  obtain ⟨current, waiting, lost, h⟩ := s.result_eq cls r code content
  rw [h]

/-- The transfer is closed: its record QUEUED, and its SEND MESSAGE answered. -/
theorem completeIntake_eq (s : State) (i : Intake) : ∃ gen link, s.completeIntake i = State.result { s with
    gen := gen, link := link, port := { s.port with intake := none },
    q := { s.q with out := s.q.out.map fun r => if r.ref = i.ref then { r with state := .queued, told := true } else r } }
    clsSend i.request .done [.num 1 i.ref, .num 2 i.length, .num 2 i.substituted] := by
  obtain ⟨gen, link, h⟩ := s.queueRecord_eq i.ref
  exact ⟨gen, link, by rw [State.completeIntake, h]⟩

end State

/-- Settles O45: a fragment that has what is needed is kept up to the length asked for; the last one queues the
record. -/
theorem textFillsTheIntake : Obligations.TextFillsTheIntake := by
  intro s src seq bytes hh hne hlen stray
  have hexec : exec (.text src seq bytes) s = .next (s.takeText src seq bytes) := by
    have hfit : (bytes = [] || decide (7 < bytes.length)) = false := by simp [hne, hlen]
    refine (State.taken_fromBus hh _ : execText src seq bytes s = _).trans ?_
    unfold State.textFrame
    rw [hfit]
    rfl
  refine ⟨fun hi => ?_, fun i hi => ?_⟩
  · rw [hexec, State.takeText, hi]
    rfl
  · intro abandoned
    have hown (hst : src = i.station) : s.takeText src seq bytes = if seq = i.expected then s.takeFragment i bytes
        else if seq = i.expected - 1 then { s with port := { s.port with intake := some { i with last := s.now } } }
        else s.abandonIntake i 1 := by
      simp only [State.takeText, hi, hst, ne_eq, not_true, if_false]
    refine ⟨fun hst => ?_, fun hst hseq hfull hmore => ?_, fun hst hseq hmore hlast => ?_, fun hst hseq hshort => ?_,
      fun hst hseq hrep => ?_, fun hst hseq hrep => ?_, fun hle => ?_⟩
    · rw [hexec]
      simp only [State.takeText, hi, if_pos hst]
      rfl
    · have htake : bytes.take (i.length - i.received) = bytes :=
        List.take_of_length_le (hfull.trans_le (Nat.le_sub_of_add_le' hmore.le))
      rw [hexec, hown hst, if_pos hseq, State.takeFragment,
        if_neg (Nat.not_lt.2 ((Nat.min_le_left 7 _).trans hfull.ge))]
      simp only [htake, hfull]
      rw [if_neg (Nat.not_le.2 hmore)]
      rfl
    · have hkept : (bytes.take (i.length - i.received)).length = i.length - i.received :=
        List.length_take_of_le (Nat.sub_le_iff_le_add'.2 hlast)
      rw [hexec, hown hst, if_pos hseq, State.takeFragment,
        if_neg (Nat.not_lt.2 ((Nat.min_le_right 7 _).trans (Nat.sub_le_iff_le_add'.2 hlast)))]
      simp only [hkept]
      rw [if_pos (Nat.add_sub_of_le hmore.le).ge]
      obtain ⟨gen, link, hc⟩ := State.completeIntake_eq { s with
        store := s.store.write (.out i.ref) ((bytes.take (i.length - i.received)).map intakeCode),
        port := { s.port with intake := some { i with
          received := i.received + (i.length - i.received), expected := i.expected + 1, last := s.now,
          substituted := i.substituted + ((bytes.take (i.length - i.received)).filter substituted).length } } }
        { i with
          received := i.received + (i.length - i.received), expected := i.expected + 1, last := s.now,
          substituted := i.substituted + ((bytes.take (i.length - i.received)).filter substituted).length }
      refine ⟨_, _, congrArg _ hc, ?_, rfl, rfl, rfl, rfl⟩
      rw [State.result_intake]
    · rw [hexec, hown hst, if_pos hseq, State.takeFragment, if_pos hshort]
      rfl
    · rw [hexec, hown hst, if_neg hseq, if_pos hrep]
    · rw [hexec, hown hst, if_neg hseq, if_neg hrep]
      rfl
    · have hdue : s.intakeDue = some i := by unfold State.intakeDue; simp [hi, Config.intakeMs, hle]
      exact (State.timedOn_some hh.1 hdue _ : execIntakeTimeout s = _)

/-! ### SEND MESSAGE -/

/-- A record without a chain has its first pages taken whole, the quota's first, or none. -/
theorem TextStore.take_of_no_chain {store : TextStore} {key : RecKey} (h : store.chain key = none) (cls : StoreClass)
    (distress : Bool) (n : Nat) : store.take key cls distress n =
      if n ≤ store.quotaRoom cls + store.reserveRoom distress then (.granted, { store with chains := store.chains ++
        [{ key := key, cls := cls, distress := distress, charges := store.charges cls n, text := [] }] })
      else (store.quotaFull cls distress, { store with full := store.full.set cls (bump (store.full.get cls)) }) := by
  unfold TextStore.take TextStore.mark
  simp [h, TextStore.grants, TextStore.addPages]

namespace State

/-- A record created with its pages. -/
theorem createOut_granted {s : State} {dest cls length : Nat} {serial : Option Nat} {st : OutState}
    (h : (s.store.take (.out s.q.nextOutRef) .outgoing (cls = 3) (pagesFor length)).1 = .granted) :
    s.createOut dest cls length serial st = (some s.q.nextOutRef, { s with
      store := (s.store.take (.out s.q.nextOutRef) .outgoing (cls = 3) (pagesFor length)).2,
      q := { s.q with
        out := insertBy OutRec.before (s.newOut dest cls length serial st) s.q.out,
        outRef := s.q.nextOutRef, outOrder := s.q.outOrder + 1 } }) := by
  simp only [State.createOut, State.newOut]
  split
  · next hg => rw [hg]
  · next hg => rw [hg] at h; cases h

/-- A record refused for want of pages. -/
theorem createOut_refused {s : State} {dest cls length : Nat} {serial : Option Nat} {st : OutState}
    (h : (s.store.take (.out s.q.nextOutRef) .outgoing (cls = 3) (pagesFor length)).1 ≠ .granted) :
    s.createOut dest cls length serial st = (none, { s with
      store := (s.store.take (.out s.q.nextOutRef) .outgoing (cls = 3) (pagesFor length)).2 }) := by
  simp only [State.createOut, State.newOut]
  split
  · next hg => rw [hg] at h; exact absurd rfl h
  · next hg => rw [hg]

/-- What SEND MESSAGE comes to once its tests are passed: the record and the transfer, or no pages. -/
def openIntake (s : State) (r : Request) (dest cls length : Nat) : State :=
  match s.createOut dest cls length none .intake with
  | (some ref, t) =>
    let i : Intake := { station := r.src, tag := r.tag, ref := ref, length := length, received := 0, expected := 0,
                        substituted := 0, last := s.now }
    State.result { t with port := { t.port with intake := some i } } clsSend r .accepted [.num 1 ref]
  | (none, t) => t.result clsSend r .full []

end State

/-- Settles O44: the take by the room there is, and SEND MESSAGE's tests in their order. -/
theorem sendMessageOpensAnIntake : Obligations.SendMessageOpensAnIntake := by
  refine ⟨fun store key cls distress n hno => ⟨fun hroom => ?_, fun hfull => ?_⟩, fun s r dest cls length ht hd hc hl => ?_⟩
  · exact (TextStore.take_of_no_chain hno cls distress n).trans (if_pos hroom)
  · exact (TextStore.take_of_no_chain hno cls distress n).trans (if_neg (Nat.not_le.2 hfull))
  · have hexec : exec (.sendMessage r) s = .next (s.reqSend r) := State.taken_request ht (cls := clsSend) rfl _
    intro valid
    have hvalid : s.sendValid dest cls length = true ↔ valid := by
      unfold State.sendValid State.callValid valid
      simp [and_assoc]
    have hsend : s.reqSend r = if !s.sendValid dest cls length then s.invalid clsSend r
        else if cls = 1 then s.result clsSend r .notAllowed []
        else if s.port.intake.isSome then s.result clsSend r .busy []
        else if 16 ≤ s.q.out.length then s.result clsSend r .full []
        else s.openIntake r dest cls length := by
      simp only [State.reqSend, hd, hc, hl]
      rfl
    rw [hexec, hsend]
    refine ⟨fun hbad => ?_, fun hok h1 => ?_, fun hok h1 hi => ?_, fun hok h1 hi => ?_⟩
    · rw [if_pos (by simpa using mt hvalid.1 hbad)]
      rfl
    all_goals rw [if_neg (by simpa using hvalid.2 hok)]
    · rw [if_pos h1]
      rfl
    all_goals rw [if_neg h1]
    · rw [if_pos (Option.isSome_iff_ne_none.2 hi)]
      rfl
    · rw [if_neg (by simp [hi])]
      refine ⟨fun hfull => ?_, fun hroom hno => ?_, fun hroom hgr => ?_⟩
      · rw [if_pos hfull]
        rfl
      all_goals rw [if_neg (Nat.not_le.2 hroom), State.openIntake]
      · rw [State.createOut_refused hno]
        rfl
      · rw [State.createOut_granted hgr]
        have hperm := insertBy_perm OutRec.before (s.newOut dest cls length none .intake) s.q.out
        refine ⟨_, _, rfl, rfl, State.result_intake .., ⟨s.newOut dest cls length none .intake, ?_, rfl, rfl, rfl, rfl, rfl,
          rfl, rfl⟩, hperm.length_eq, fun o ho => ?_, rfl, rfl, rfl, rfl, rfl⟩
        · exact hperm.mem_iff.2 (List.mem_cons_self ..)
        · exact hperm.mem_iff.2 (List.mem_cons_of_mem _ ho)

/-! ### The readouts -/

/-- No message of a readout waits or is being sent. -/
def Port.NoReadout (p : Port) : Prop :=
  (∀ m ∈ p.waiting, m.ofReadout = false) ∧ ∀ w, p.current = some w → w.ofReadout = false

theorem pickFirst_subset {p : OutMsg → Bool} {ms rest : List OutMsg} {x : OutMsg} (h : pickFirst p ms = some (x, rest)) :
    x ∈ ms ∧ ∀ m ∈ rest, m ∈ ms := by
  induction ms generalizing rest with
  | nil => unfold pickFirst at h
           simp at h
  | cons y ys ih =>
    simp only [pickFirst] at h
    split at h
    · obtain ⟨rfl, rfl⟩ := Prod.mk.inj (Option.some.inj h)
      exact ⟨List.mem_cons_self .., fun m hm => List.mem_cons_of_mem _ hm⟩
    · split at h
      · next z left hz =>
        obtain ⟨rfl, rfl⟩ := Prod.mk.inj (Option.some.inj h)
        obtain ⟨hx, hrest⟩ := ih hz
        refine ⟨List.mem_cons_of_mem _ hx, fun m hm => ?_⟩
        rcases List.mem_cons.1 hm with rfl | hm
        · exact List.mem_cons_self ..
        · exact List.mem_cons_of_mem _ (hrest m hm)
      · cases h

namespace Port.NoReadout

theorem startNext {p : Port} (h : p.NoReadout) : p.startNext.NoReadout := by
  obtain ⟨hw, hc⟩ := h
  unfold Port.startNext
  split
  · exact ⟨hw, hc⟩
  · split
    · next m rest hpick =>
      obtain ⟨hm, hrest⟩ := pickFirst_subset hpick
      exact ⟨fun x hx => hw x (hrest x hx), fun w hcur => by cases hcur; exact hw m hm⟩
    · split
      · next m rest heq =>
        rw [heq] at hw
        exact ⟨fun x hx => hw x (List.mem_cons_of_mem _ hx), fun w hcur => by
          cases hcur; exact hw m (List.mem_cons_self ..)⟩
      · exact ⟨hw, hc⟩

theorem notice {p : Port} (h : p.NoReadout) (code : Nat) (content : List Field) :
    (p.notice code content).NoReadout := by
  have hplace (m : OutMsg) (hm : m.ofReadout = false) : (p.place m).NoReadout := by
    unfold Port.place
    split
    · refine Port.NoReadout.startNext ⟨fun x hx => ?_, h.2⟩
      rcases List.mem_append.1 hx with hx | hx
      · exact h.1 x hx
      · rw [List.mem_singleton.1 hx, hm]
    · exact h
  simp only [Port.notice]
  split
  · exact hplace _ rfl
  · exact hplace _ rfl

end Port.NoReadout

/-- The frames of a readout given up are discarded, and one of them being sent is marked. -/
theorem Port.dropReadout_spec (p : Port) (now : Nat) : (p.dropReadout now).NoReadout ∧
    (∃ current waiting dropped, p.dropReadout now = { p with
      current := current, waiting := waiting, droppedAt := dropped }) ∧
    ∀ m, p.current = some m → m.ofReadout = true → (p.dropReadout now).droppedAt = some now := by
  have hleft (m : OutMsg) (hm : m ∈ p.waiting.filter fun m => !m.ofReadout) : m.ofReadout = false := by
    simpa using (List.mem_filter.1 hm).2
  unfold Port.dropReadout
  dsimp only
  split
  · next m hcur =>
    split
    · next hm =>
      obtain ⟨current, waiting, h⟩ := Port.startNext_eq { p with
        waiting := p.waiting.filter fun m => !m.ofReadout, current := none, droppedAt := some now }
      refine ⟨Port.NoReadout.startNext ⟨hleft, fun w hw => by cases hw⟩, ⟨_, _, _, h⟩, fun _ _ _ => ?_⟩
      rw [h]
    · next hm =>
      exact ⟨⟨hleft, fun w hw => by cases hcur.symm.trans hw; simpa using hm⟩, ⟨_, _, _, rfl⟩,
        fun w hw hro => by cases hcur.symm.trans hw; exact absurd hro hm⟩
  · next hcur =>
    exact ⟨⟨hleft, fun w hw => by cases hcur.symm.trans hw⟩, ⟨_, _, _, rfl⟩, fun w hw => by cases hcur.symm.trans hw⟩

namespace State

/-- A message's readout given up puts its record back, and may discard it, which the port is told. -/
theorem incReadUnfinished_eq (s : State) (ref : Nat) : ∃ q store p, s.incReadUnfinished ref =
    { s with q := q, store := store, port := p } ∧ (p = s.port ∨ ∃ content, p = s.port.notice 14 content) := by
  unfold State.incReadUnfinished
  split
  · simp only
    split
    · split
      · exact ⟨_, _, _, rfl, .inr ⟨_, rfl⟩⟩
      · split
        · exact ⟨_, _, _, rfl, .inr ⟨_, rfl⟩⟩
        · exact ⟨_, _, _, rfl, .inl rfl⟩
    · exact ⟨_, _, _, rfl, .inl rfl⟩
  · exact ⟨_, _, _, rfl, .inl rfl⟩

theorem result_readout (s : State) (cls : Nat) (r : Request) (code : ResultCode) (content : List Field) :
    (s.result cls r code content).port.readout = s.port.readout := by
  obtain ⟨current, waiting, lost, h⟩ := s.result_eq cls r code content
  rw [h]

/-- A stalled readout changes the port, and the block its record stands in. -/
theorem stall_eq (s : State) (x : Readout) : ∃ q store bul p, s.stall x =
    { s with q := q, store := store, bul := bul, port := p } ∧
    let left := { s.port with readout := none, unfinished := bump s.port.unfinished }.dropReadout s.now
    (p = left ∨ ∃ content, p = left.notice 14 content) := by
  unfold State.stall State.readoutEnded
  dsimp only
  split
  · exact ⟨_, _, _, _, rfl, .inl rfl⟩
  · rw [if_neg (by decide)]
    obtain ⟨q, store, p, h, hp⟩ := State.incReadUnfinished_eq { s with port :=
      { s.port with readout := none, unfinished := bump s.port.unfinished }.dropReadout s.now } _
    exact ⟨q, store, _, p, h, hp⟩
  · exact ⟨_, _, _, _, rfl, .inl rfl⟩

/-- A stalled readout leaves the port without it and without its frames. -/
theorem stall_port (s : State) (x : Readout) : (s.stall x).port.readout = none ∧
    (s.stall x).port.unfinished = bump s.port.unfinished ∧ (s.stall x).port.NoReadout ∧
    (∀ m, s.port.current = some m → m.ofReadout = true → (s.stall x).port.droppedAt = some s.now) ∧
    (s.stall x).link = s.link ∧ (s.stall x).enc = s.enc := by
  obtain ⟨q, store, bul, p, h, hp⟩ := s.stall_eq x
  obtain ⟨hno, ⟨current, waiting, dropped, hleft⟩, hdrop⟩ := Port.dropReadout_spec
    { s.port with readout := none, unfinished := bump s.port.unfinished } s.now
  rw [h]
  rcases hp with rfl | ⟨content, rfl⟩
  · exact ⟨by rw [hleft], by rw [hleft], hno, hdrop, rfl, rfl⟩
  · obtain ⟨current', waiting', lost, serial, hn⟩ := Port.notice_eq (Port.dropReadout
      { s.port with readout := none, unfinished := bump s.port.unfinished } s.now) 14 content
    exact ⟨by rw [hn, hleft], by rw [hn, hleft], hno.notice .., fun m hc hm => by rw [hn]; exact hdrop m hc hm, rfl, rfl⟩

end State

set_option Elab.async false in
/-- Settles O47: READ's tests in their order, and the open readout's three timers. -/
theorem readoutOpensAndSendsItsText : Obligations.ReadoutOpensAndSendsItsText := by
  refine ⟨fun s r n ht hsel => ?_, fun s x hlow hx => ⟨fun hmore hheld hrest => ?_, fun hall hw he hheld => ?_,
    fun hle => ?_⟩, fun s hlow hd => ?_⟩
  · have hm : exec (.readMessage r) s = .next (s.reqReadMessage r) :=
      State.taken_request ht (cls := clsReadMessage) rfl _
    have hb : exec (.readBulletin r) s = .next (s.reqReadBulletin r) :=
      State.taken_request ht (cls := clsReadBulletin) rfl _
    intro readout
    refine ⟨fun hbusy => ?_, fun hfree => ⟨fun hno => ?_, fun x hx => ⟨fun hst => ?_, fun hst => ?_⟩, fun hno => ?_,
      fun x hx => ⟨fun hst => ?_, fun hst => ?_⟩⟩⟩
    · have hsome := Option.isSome_iff_ne_none.2 hbusy
      rw [hm, hb]
      unfold State.reqReadMessage State.reqReadBulletin
      simp only [hsel, if_pos hsome]
      exact ⟨rfl, rfl⟩
    · rw [hm]
      unfold State.reqReadMessage
      simp only [hsel, hfree, hno, Option.isSome_none, Bool.false_eq_true, if_false]
      rfl
    · rw [hm]
      unfold State.reqReadMessage
      simp only [hsel, hfree, hx, Option.isSome_none, Bool.false_eq_true, if_false]
      rw [if_pos (by simpa using hst)]
      rfl
    · obtain rfl : x.ref = n := by simpa using List.find?_some hx
      rw [hm]
      unfold State.reqReadMessage
      simp only [hsel, hfree, hx, Option.isSome_none, Bool.false_eq_true, if_false]
      rw [if_neg (by rcases hst with h | h <;> simp [h])]
      exact ⟨_, rfl, State.result_readout .., rfl, rfl, rfl⟩
    · rw [hb]
      unfold State.reqReadBulletin
      simp only [hsel, hfree, hno, Option.isSome_none, Bool.false_eq_true, if_false]
      rfl
    · rw [hb]
      unfold State.reqReadBulletin
      simp only [hsel, hfree, hx, Option.isSome_none, Bool.false_eq_true, if_false, if_neg hst]
      rfl
    · obtain rfl : x.index = n := by simpa using List.find?_some hx
      rw [hb]
      unfold State.reqReadBulletin
      simp only [hsel, hfree, hx, Option.isSome_none, Bool.false_eq_true, if_false, if_pos hst]
      exact ⟨_, rfl, State.result_readout .., rfl, rfl, rfl⟩
  · have hdue : s.readoutDue = some x := by
      unfold State.readoutDue
      simp only [hx]
      rw [if_pos]
      cases hp : x.placed with
      | none => simp [hmore, hheld]
      | some t =>
        simp only [hmore, hheld, decide_true, Bool.true_and]
        exact decide_eq_true (hrest t hp)
    exact (State.timedOn_some hlow hdue _ : execReadoutText s = _)
  · have hdue : s.endTextDue = some x := by unfold State.endTextDue; simp [hx, hall, hw, he, hheld]
    exact (State.timedOn_some hlow hdue _ : execEndOfText s = _)
  · have hdue : s.stallDue = some x := by unfold State.stallDue; simp [hx, Config.stallMs, hle]
    have hexec : execReadoutStall s = .next (s.stall x) := State.timedOn_some hlow hdue _
    obtain ⟨hnone, hcount, ⟨hwait, hcur⟩, hdrop, hlink, henc⟩ := s.stall_port x
    refine ⟨_, hexec, hnone, hcount, hwait, fun m hc hm => ⟨hdrop m hc hm, hcur⟩, hlink, henc, fun n hkey => ?_⟩
    simp only [State.stall, State.readoutEnded, hkey, State.bulReadEnd, Bool.or_false]
    exact ⟨rfl, rfl, rfl⟩
  · have hsame : s.carried = { s with port := { s.port with droppedAt := none } } := if_pos hd
    exact (State.taken_high hlow State.carried : execFrameCarried s = _).trans (congrArg _ hsame)

end Sys2Proof.Machine
end

section
/-! PROOFS. The configuration window: what each CONFIGURE item records, how it is answered and when it is counted as
adjusted (O51, O52). -/

namespace Sys2Proof.Machine

namespace State

/-- The outcome of a CONFIGURE item that is recorded (R213): `x` recorded, the item, its echo and its mark answered, and
one adjusted value more counted unless it was recorded as given. -/
def record (s : State) (r : Request) (item : Nat) (x : Recorded) (echo : List Field) (asGiven : Bool) (mark : Nat) :
    Host.Outcome State Fault Refusal :=
  .next (State.result
    { s with recd := x,
             port := { s.port with adjustments :=
               if asGiven then s.port.adjustments else min 65535 (s.port.adjustments + 1) } }
    80 r .done ([.num 1 item] ++ echo ++ [.num 1 mark]))

theorem takes_configure {s : State} {r : Request} (ht : s.takes r) (item : Nat)
    (judge : State → List Byte → ItemOutcome) :
    (s.taken fun t => t.request clsConfigure r fun u q => u.configure item q (judge u q.params)) =
      .next (s.configure item r (judge s r.params)) :=
  taken_request ht (cls := clsConfigure) rfl _

theorem configure_recorded {s : State} (hw : s.windowOpen) (item : Nat) (r : Request) {judge : ItemOutcome}
    {x : Recorded} {echo : List Field} {mark : Mark} (hj : judge = .recorded x echo mark) :
    .next (s.configure item r judge) = s.record r item x echo (mark = .asGiven) mark.ctorIdx := by
  have hopen : s.configClosed = false := by
    unfold State.configClosed
    rw [Option.isNone_eq_false_iff]
    exact hw
  unfold State.configure record
  rw [hopen, hj]
  cases mark <;> rfl

theorem configure_invalid {s : State} (hw : s.windowOpen) (item : Nat) (r : Request) :
    s.configure item r .invalid = s.result 80 r .invalid [] := by
  have hopen : s.configClosed = false := by
    unfold State.configClosed
    rw [Option.isNone_eq_false_iff]
    exact hw
  unfold State.configure
  rw [hopen]
  rfl

theorem configure_full {s : State} (hw : s.windowOpen) (item : Nat) (r : Request) :
    s.configure item r .full = s.result 80 r .full [] := by
  have hopen : s.configClosed = false := by
    unfold State.configClosed
    rw [Option.isNone_eq_false_iff]
    exact hw
  unfold State.configure
  rw [hopen]
  rfl

/-- A value that stands as it was given, or is moved to another with the mark "clamped". -/
theorem configure_moved {s : State} (hw : s.windowOpen) (item : Nat) (r : Request) {p : Prop} [Decidable p]
    (x : Recorded) (echo : List Field) :
    .next (s.configure item r (.recorded x echo (if p then .asGiven else .clamped))) =
      s.record r item x echo p (if p then 0 else 1) := by
  by_cases h : p
  · simp only [if_pos h, decide_eq_true h]
    exact configure_recorded hw item r (mark := .asGiven) rfl
  · simp only [if_neg h, decide_eq_false h]
    exact configure_recorded hw item r (mark := .clamped) rfl

theorem configure_clamp {s : State} (hw : s.windowOpen) (item : Nat) (r : Request) {w lo hi n m : Nat}
    {v : Option Nat} (hv : v = some n) (hm : max lo (min hi n) = m) (f : Nat → Recorded) :
    .next (s.configure item r (judgeClamp w lo hi v f)) =
      s.record r item (f m) [.num w m] (m = n) (if m = n then 0 else 1) := by
  subst hv hm
  exact configure_moved hw item r _ _

theorem configure_call {s : State} (hw : s.windowOpen) (item : Nat) (r : Request) {lo hi n : Nat}
    {v : Option Nat} (hv : v = some n) (f : Option Nat → Recorded) :
    .next (s.configure item r (judgeCall lo hi v f)) =
      if lo ≤ n ∧ n ≤ hi then s.record r item (f (some n)) [.num 3 n] true 0
      else s.record r item (f none) [.absent 3] false 2 := by
  subst hv
  unfold judgeCall
  dsimp only
  split
  · exact configure_recorded hw item r (mark := .asGiven) rfl
  · exact configure_recorded hw item r (mark := .defaulted) rfl

theorem configure_named {s : State} (hw : s.windowOpen) (item : Nat) (r : Request) {α : Type} {n : Nat}
    {v : Option Nat} (hv : v = some n) {read : Nat → Option α} {a : α} (hread : read n = some a) (at_ : Nat)
    (dflt : α) (f : α → Recorded) :
    .next (s.configure item r (judgeNamed v read at_ dflt f)) = s.record r item (f a) [.num 1 n] true 0 := by
  subst hv
  refine configure_recorded hw item r (mark := .asGiven) ?_
  unfold judgeNamed
  simp only [hread]

theorem configure_unnamed {s : State} (hw : s.windowOpen) (item : Nat) (r : Request) {α : Type} {n : Nat}
    {v : Option Nat} (hv : v = some n) {read : Nat → Option α} (hread : read n = none) (at_ : Nat)
    (dflt : α) (f : α → Recorded) :
    .next (s.configure item r (judgeNamed v read at_ dflt f)) =
      s.record r item (f dflt) [.num 1 at_] false 2 := by
  subst hv
  refine configure_recorded hw item r (mark := .defaulted) ?_
  unfold judgeNamed
  simp only [hread]

end State

theorem relayModeOf_none : ∀ {n : Nat}, 2 < n → relayModeOf n = none
  | _ + 3, _ => rfl

theorem busyRuleOf_none : ∀ {n : Nat}, 1 < n → busyRuleOf n = none
  | _ + 2, _ => rfl

theorem originFilterOf_none : ∀ {n : Nat}, 1 < n → originFilterOf n = none
  | _ + 2, _ => rfl

theorem auxModeOf_none : ∀ {n : Nat}, 3 < n → auxModeOf n = none
  | _ + 4, _ => rfl

/-- The code of an AUX distress mode is its place in the list. -/
theorem auxModeOf_ctorIdx {n : Nat} {m : AuxMode} (h : auxModeOf n = some m) : m.ctorIdx = n := by
  have hplace : ∀ k : Fin 4, (auxModeOf k).map AuxMode.ctorIdx = some k := by decide
  by_cases hn : n < 4
  · exact Option.some.inj ((congrArg (Option.map AuxMode.ctorIdx) h).symm.trans (hplace ⟨n, hn⟩))
  · exact nomatch (auxModeOf_none (Nat.lt_of_succ_le (Nat.le_of_not_lt hn))).symm.trans h

/-! ### The list of bridge stations -/

theorem dropRepeats_sublist : ∀ seen v, (dropRepeats seen v).Sublist v
  | _, [] => .slnil
  | seen, b :: rest => by
    unfold dropRepeats
    split
    · exact (dropRepeats_sublist seen rest).cons b
    · exact (dropRepeats_sublist (b :: seen) rest).cons_cons b

theorem not_mem_of_mem_dropRepeats : ∀ {seen v : List Byte} {b : Byte}, b ∈ dropRepeats seen v → b ∉ seen
  | seen, c :: rest, b, h => by
    unfold dropRepeats at h
    split at h
    · exact not_mem_of_mem_dropRepeats h
    · next hc =>
      rcases List.mem_cons.1 h with rfl | h
      · simpa using hc
      · exact fun hb => not_mem_of_mem_dropRepeats h (List.mem_cons_of_mem _ hb)

theorem nodup_dropRepeats : ∀ seen v, (dropRepeats seen v).Nodup
  | _, [] => List.nodup_nil
  | seen, b :: rest => by
    unfold dropRepeats
    split
    · exact nodup_dropRepeats seen rest
    · exact List.nodup_cons.2
        ⟨fun h => not_mem_of_mem_dropRepeats h List.mem_cons_self, nodup_dropRepeats (b :: seen) rest⟩

/-- A station neither seen nor given before is kept, behind those kept of what was given before it. -/
theorem dropRepeats_append_cons {b : Byte} (after : List Byte) : ∀ (seen before : List Byte), b ∉ seen → b ∉ before →
    ∃ tail, dropRepeats seen (before ++ b :: after) = dropRepeats seen before ++ b :: tail
  | seen, [], hs, _ => ⟨dropRepeats (b :: seen) after, by simp [dropRepeats, hs]⟩
  | seen, c :: before, hs, hb => by
    obtain ⟨hne, hb⟩ := not_or.1 (fun h => hb (List.mem_cons.2 h))
    by_cases hc : c ∈ seen
    · simpa [dropRepeats, hc] using dropRepeats_append_cons after seen before hs hb
    · simpa [dropRepeats, hc] using
        dropRepeats_append_cons after (c :: seen) before (fun h => (List.mem_cons.1 h).elim hne hs) hb

namespace State

/-- The bridge stations kept of a list given (R213 item 3). -/
def keptBridge (s : State) (v : List Byte) : List Byte := (dropRepeats [255, s.port.station] v).take 4

theorem keptBridge_sublist (s : State) (v : List Byte) : (s.keptBridge v).Sublist v :=
  (List.take_sublist 4 _).trans (dropRepeats_sublist _ v)

theorem keptBridge_ne (s : State) (v : List Byte) {b : Byte} (h : b ∈ s.keptBridge v) :
    b ≠ 255 ∧ b ≠ s.port.station := by
  simpa using not_mem_of_mem_dropRepeats (List.mem_of_mem_take h)

theorem keptBridge_of_dropped (s : State) {before after : List Byte} {b : Byte} (h255 : b ≠ 255)
    (hown : b ≠ s.port.station) (hb : b ∉ before) (hk : b ∉ s.keptBridge (before ++ b :: after)) :
    (s.keptBridge (before ++ b :: after)).length = 4 ∧ ∀ k ∈ s.keptBridge (before ++ b :: after), k ∈ before := by
  unfold keptBridge at *
  obtain ⟨tail, heq⟩ := dropRepeats_append_cons after [255, s.port.station] before
    (fun h => (List.mem_cons.1 h).elim h255 fun h => hown (List.mem_singleton.1 h)) hb
  rw [heq] at hk ⊢
  have hfour : 4 ≤ (dropRepeats [255, s.port.station] before).length := by
    by_contra hlt
    refine hk (List.mem_iff_getElem?.2 ⟨(dropRepeats [255, s.port.station] before).length, ?_⟩)
    rw [List.getElem?_take, if_pos (by omega), List.getElem?_append_right le_rfl, Nat.sub_self,
      List.getElem?_cons_zero]
  rw [List.take_append_of_le_length hfour]
  exact ⟨List.length_take_of_le hfour,
    fun k hk => (dropRepeats_sublist _ before).subset (List.mem_of_mem_take hk)⟩

theorem itemBridge_eq (s : State) (v : List Byte) :
    s.itemBridge v = .recorded { s.recd with bridge := s.keptBridge v } ((s.keptBridge v).map fun b => .num 1 b.toNat)
      (if s.keptBridge v = v then .asGiven else .clamped) := by
  have hiff : (s.keptBridge v).length = v.length ↔ s.keptBridge v = v :=
    ⟨(s.keptBridge_sublist v).eq_of_length, congrArg List.length⟩
  unfold itemBridge
  simp only [← hiff]
  rfl

end State

theorem State.configure_marked {s : State} (hw : s.windowOpen) (item : Nat) (r : Request) {p : Prop} [Decidable p]
    (x : Recorded) (echo : List Field) :
    .next (s.configure item r (.recorded x echo (if p then .asGiven else .clamped))) =
      s.record r item x echo ((if p then 0 else 1) = 0) (if p then 0 else 1) := by
  have hmark : decide ((if p then 0 else 1) = 0) = decide p := by
    by_cases h : p <;> simp [h]
  rw [hmark]
  exact configure_moved hw item r x echo

/-- Settles O51: each item is judged by its kind, a number clamped, a call or a named value defaulted, the bridge list
filtered. -/
theorem configureRecordsNumbersNamesAndStations : Obligations.ConfigureRecordsNumbersNamesAndStations := by
  refine ⟨fun s r n ht hw => ?_, fun s r ht hw => ?_⟩
  · refine ⟨fun hn => ⟨?_, ?_, ?_, ?_, ?_⟩, fun hn => ⟨?_, ?_, ?_, ?_⟩⟩
    · exact (State.takes_configure ht 12 State.itemCloseHour : exec (.configureCloseHour r) s = _).trans
        (State.configure_clamp hw 12 r hn (Nat.zero_max _) _)
    · exact (State.takes_configure ht 13 State.itemDeadline : exec (.configureReportDeadline r) s = _).trans
        (State.configure_clamp hw 13 r hn rfl _)
    · exact (State.takes_configure ht 16 State.itemThreshold : exec (.configureCallThreshold r) s = _).trans
        (State.configure_clamp hw 16 r hn (Nat.zero_max _) _)
    · exact (State.takes_configure ht 19 State.itemPages : exec (.configurePageLimit r) s = _).trans
        (State.configure_clamp hw 19 r hn rfl _)
    · refine (State.takes_configure ht 7 State.itemCdFilter : exec (.configureCdFilterTime r) s = _).trans ?_
      unfold State.itemCdFilter
      rw [hn]
      exact State.configure_moved hw 7 r _ _
    · exact (State.takes_configure ht 14 State.itemSerial : exec (.configureNextSerial r) s = _).trans
        (State.configure_clamp hw 14 r hn rfl _)
    · exact (State.takes_configure ht 15 State.itemWatch : exec (.configureWatchInterval r) s = _).trans
        (State.configure_clamp hw 15 r hn rfl _)
    · exact (State.takes_configure ht 17 State.itemGood : exec (.configureGoodLimit r) s = _).trans
        (State.configure_clamp hw 17 r hn (Nat.zero_max _) _)
    · exact (State.takes_configure ht 18 State.itemPoor : exec (.configurePoorLimit r) s = _).trans
        (State.configure_clamp hw 18 r hn (Nat.zero_max _) _)
  · have hmode := (State.takes_configure ht 5 State.itemRelayMode : exec (.configureRelayMode r) s = _)
    have hrule := (State.takes_configure ht 6 State.itemBusyRule : exec (.configureBusyRule r) s = _)
    have horigins := (State.takes_configure ht 11 State.itemOrigins : exec (.configureOriginFilter r) s = _)
    refine ⟨fun n hn => ⟨?_, ?_⟩, fun n hn => ⟨fun m hm => ?_, fun hn2 => ?_, fun m hm => ?_, fun hn1 => ?_,
      fun m hm => ?_, fun hn1 => ?_⟩, fun b i o hb hi ho => ?_, s.keptBridge r.params, ?_, ?_, ?_, ?_, ?_, ?_⟩
    · exact (State.takes_configure ht 1 State.itemOwnCall : exec (.configureOwnCall r) s = _).trans
        (State.configure_call hw 1 r hn _)
    · exact (State.takes_configure ht 2 State.itemPortOffice : exec (.configurePortOffice r) s = _).trans
        (State.configure_call hw 2 r hn _)
    · exact hmode.trans (State.configure_named hw 5 r hn hm 1 .bridge _)
    · exact hmode.trans (State.configure_unnamed hw 5 r hn (relayModeOf_none hn2) 1 .bridge _)
    · exact hrule.trans (State.configure_named hw 6 r hn hm 0 .any _)
    · exact hrule.trans (State.configure_unnamed hw 6 r hn (busyRuleOf_none hn1) 0 .any _)
    · exact horigins.trans (State.configure_named hw 11 r hn hm 0 .any _)
    · exact horigins.trans (State.configure_unnamed hw 11 r hn (originFilterOf_none hn1) 0 .any _)
    · refine (State.takes_configure ht 4 State.itemQuotas : exec (.configureQuotas r) s = _).trans ?_
      unfold State.itemQuotas
      rw [hb, hi, ho]
      exact State.configure_recorded hw 4 r (mark := .asGiven) rfl
    · refine (State.takes_configure ht 3 State.itemBridge : exec (.configureBridgeStations r) s = _).trans ?_
      rw [State.itemBridge_eq]
      exact State.configure_marked hw 3 r _ _
    · exact List.length_take_le _ _
    · exact (nodup_dropRepeats _ _).sublist (List.take_sublist _ _)
    · exact fun b hb => ⟨(s.keptBridge_sublist r.params).subset hb, s.keptBridge_ne r.params hb⟩
    · exact s.keptBridge_sublist r.params
    · intro before b after hparams h255 hown hb hk
      rw [hparams] at hk ⊢
      exact s.keptBridge_of_dropped h255 hown hb hk

/-! ### Schedule windows, the selection and AUX distress modes -/

theorem Window.valid_iff (w : Window) :
    w.valid = true ↔ 90000 ≤ w.coast ∧ w.coast ≤ 99999 ∧ w.start ≤ 1439 ∧
      ∀ c ∈ [w.origin1, w.origin2, w.subject], 65 ≤ c ∧ c ≤ 90 := by
  unfold Window.valid isLetter
  simp [and_assoc]

/-- Settles O52: each item's list, set or mode is judged and recorded as its kind says. -/
theorem configureRecordsWindowsSelectionAndModes : Obligations.ConfigureRecordsWindowsSelectionAndModes := by
  intro s r ht hw
  refine ⟨fun w hwin => ?_, ?_, fun subjects areas hs ha => ?_, fun line n hl hn => ?_⟩
  · have hexec := (State.takes_configure ht 8 State.itemWindow : exec (.configureScheduleWindow r) s = _)
    unfold State.itemWindow at hexec
    rw [hwin] at hexec
    dsimp only at hexec
    refine ⟨fun hbad => ?_, fun hright hlen => ?_, fun hright hlen => ?_⟩
    · rw [if_pos (by simpa using mt w.valid_iff.1 hbad)] at hexec
      exact hexec.trans (congrArg _ (State.configure_invalid hw 8 r))
    · rw [if_neg (by simpa using w.valid_iff.2 hright), if_pos hlen] at hexec
      exact hexec.trans (congrArg _ (State.configure_full hw 8 r))
    · rw [if_neg (by simpa using w.valid_iff.2 hright), if_neg (Nat.not_le.2 hlen)] at hexec
      exact hexec.trans (State.configure_marked hw 8 r _ _)
  · exact (State.takes_configure ht 9 State.itemClear : exec (.configureClearSchedule r) s = _).trans
      (State.configure_recorded hw 9 r (mark := .asGiven) rfl)
  · refine (State.takes_configure ht 10 State.itemSelection : exec (.configureInitialSelection r) s = _).trans ?_
    unfold State.itemSelection
    rw [hs, ha]
    exact State.configure_marked hw 10 r _ _
  · have hexec := (State.takes_configure ht 20 State.itemAuxMode : exec (.configureAuxDistressMode r) s = _)
    unfold State.itemAuxMode at hexec
    rw [hl, hn] at hexec
    dsimp only at hexec
    refine ⟨fun hbad => ?_, fun hline m hm => ?_, fun hline hn3 => ?_⟩
    · rw [if_pos hbad] at hexec
      exact hexec.trans (congrArg _ (State.configure_invalid hw 20 r))
    · rw [if_neg (Nat.not_lt.2 hline), hm] at hexec
      rw [← auxModeOf_ctorIdx hm]
      exact hexec.trans (State.configure_recorded hw 20 r (mark := .asGiven) rfl)
    · rw [if_neg (Nat.not_lt.2 hline), auxModeOf_none hn3] at hexec
      exact hexec.trans (State.configure_recorded hw 20 r (mark := .defaulted) rfl)

end Sys2Proof.Machine
end

section
/-! PROOFS. The distress unit on its own: the burst and its fields, the frame queue, acknowledgements by the bridge and
RAISE DISTRESS (O30, O32, O33, O34, O35). -/

namespace Sys2Proof.Machine

/-! ### The fields of a burst -/

theorem length_digitsOf : ∀ w n : Nat, (digitsOf w n).length = w
  | 0, _ => rfl
  | w + 1, n => congrArg (· + 1) (length_digitsOf w n)

@[simp] theorem length_digitIndexes (w n : Nat) : (digitIndexes w n).length = w := by
  unfold digitIndexes
  rw [List.length_map, length_digitsOf]

@[simp] theorem length_timeIndexes (t : Option Nat) : (timeIndexes t).length = 4 := by
  cases t
  · exact List.length_replicate
  · exact length_digitIndexes 4 _

@[simp] theorem length_formatPosition (p : Position) : (formatPosition p).length = 11 := by
  unfold formatPosition formatAngle
  simp

namespace State

@[simp] theorem length_burstPosition (s : State) : s.burstPosition.length = 11 := by
  unfold burstPosition queries
  split
  · split
    · exact length_formatPosition _
    · exact List.length_replicate
  · exact List.length_replicate

theorem drop_burstFields (s : State) (own : Nat) :
    (s.burstFields own).drop 8 = s.burstPosition ++ timeIndexes s.dis.alertTime := by
  unfold burstFields
  rw [List.append_assoc]
  exact List.drop_left' (by simp)

end State

/-- Settles O33: each field stands at its place, and its content is the value held or "?" throughout. -/
theorem burstCarriesItsFields : Obligations.BurstCarriesItsFields := by
  intro s own
  have hpos : ((s.burstFields own).drop 8).take 11 = s.burstPosition := by
    rw [s.drop_burstFields own]
    exact List.take_left' s.length_burstPosition
  have htime : (s.burstFields own).drop 19 = timeIndexes s.dis.alertTime := by
    rw [show 19 = 8 + 11 from rfl, ← List.drop_drop, s.drop_burstFields own]
    exact List.drop_left' s.length_burstPosition
  refine ⟨by unfold State.burstFields; simp, ?_, fun n hn => ?_, fun c hc => ?_, fun h => ?_, fun p hp hlate => ?_,
    fun p hp hfresh => ?_, fun h => ?_, fun h hh => ?_⟩
  · unfold State.burstFields
    simp only [List.append_assoc]
    exact List.take_left' (length_digitIndexes 5 own)
  · unfold State.burstFields
    simp only [List.append_assoc, hn]
    rw [List.drop_left' (length_digitIndexes 5 own)]
    exact List.take_left' (length_digitIndexes 2 n)
  · unfold State.burstFields
    simp only [List.append_assoc, hc]
    rw [List.getElem?_append_right (by simp), List.getElem?_append_right (by simp)]
    unfold cText
    simp
  · rw [hpos, State.burstPosition, h]; rfl
  · rw [hpos, State.burstPosition, hp]
    exact if_neg (Nat.not_le.2 (Nat.lt_sub_iff_add_lt'.2 hlate))
  · rw [hpos, State.burstPosition, hp]
    exact if_pos (Nat.sub_le_iff_le_add'.2 hfresh)
  · rw [htime, h]; rfl
  · rw [htime, hh]; rfl

/-! ### Placing a burst and a frame -/

namespace State

theorem placeFrame_eq {s : State} (h : s.cfg.ownCall.isSome) (r : FrameReq) :
    s.placeFrame r = { s with enc := s.enc.putAt r } := by
  unfold placeFrame
  rw [if_pos h]
  split <;> rfl

/-- The part after a burst is placed with an alert time (R163, R165). -/
def burstWith (s : State) (own : Nat) (alert : Option Nat) : State :=
  let d : Distress := { s.dis with
    burstAt := none, heldSince := if s.lines.txinh.asserted then some s.now else none, holdDone := false,
    heldTold := false, alertTime := alert }
  { s with
    dis := d,
    enc := { s.enc with burst := some { kind := .burst, placed := s.now,
                                         fields := ({ s with dis := d } : State).burstFields own } } }

/-- The part after a burst is placed: the alert time stands, or is taken now. -/
def burstPlaced (s : State) (own : Nat) : State := s.burstWith own (s.dis.alertTime.or (s.tod.map hhmmOf))

theorem alertTime_or (alert now : Option Nat) : (match alert with
    | some h => some h
    | none => now) = alert.or now := by
  cases alert <;> rfl

theorem placeBurst_of_out {s : State} (h : s.burstOut = true) : s.placeBurst = s := by
  unfold placeBurst
  exact if_pos h

theorem holdBurst_fresh {s : State} (hb : s.enc.burst.isSome = true) (hh : s.dis.heldSince = none)
    (hd : s.dis.holdDone = false) :
    s.holdBurst = { s with dis := { s.dis with heldSince := if s.lines.txinh.asserted then some s.now else none } } := by
  unfold holdBurst
  rw [hb, hh]
  cases s.lines.txinh.asserted
  · exact congrArg (fun h => { s with dis := { s.dis with heldSince := h } }) hh
  · exact congrArg (fun b => { s with dis := { s.dis with heldSince := some s.now, holdDone := b } }) hd.symm

theorem placeBurst_placed {s : State} (hout : s.burstOut = false) {own : Nat} (hown : s.cfg.ownCall = some own) :
    s.placeBurst = s.burstPlaced own := by
  unfold placeBurst
  rw [hout]
  simp only [Bool.false_eq_true, if_false, hown]
  rw [placeFrame_eq (by simp only [hown, Option.isSome_some]), holdBurst_fresh rfl rfl rfl]
  exact congrArg (s.burstWith own) (alertTime_or _ _)

end State

theorem State.reached_of {s : State} {x : Option Nat} {t : Nat} (hx : x = some t) (hle : t ≤ s.now) :
    s.reached x = true := by
  rw [hx]
  exact decide_eq_true hle

/-- Settles O32: the burst timer goes through the one placing, and the hold is announced under its own mark. -/
theorem burstTimersPlaceAndAnnounce : Obligations.BurstTimersPlaceAndAnnounce := by
  intro s hlow
  have hdue (t : Nat) (ht : s.dis.burstAt = some t) (hle : t ≤ s.now) :
      exec .burstTimerExpiry s = .next s.burstOver := State.timed_due hlow (State.reached_of ht hle) _
  refine ⟨fun t ht hle hout => (hdue t ht hle).trans (congrArg _ (State.placeBurst_of_out hout)),
    fun t own ht hle hout hown =>
      ⟨_, (hdue t ht hle).trans (congrArg _ (State.placeBurst_placed
        (s := { s with dis := { s.dis with burstAt := none } }) hout hown)), rfl, rfl, rfl, rfl, rfl, rfl, rfl, rfl⟩,
    fun r h hr hh hle hdone => ?_⟩
  have hheld : s.heldDue = true := by
    unfold State.heldDue
    rw [hr, hdone]
    exact State.reached_of (congrArg _ hh) hle
  refine (State.timed_due hlow hheld _ : execDistressHeld s = _).trans (congrArg _ ?_)
  unfold State.holdOver
  rw [hr]
  cases s.dis.heldTold <;> rfl

/-! ### The frame queue -/

namespace State

theorem enqueue_eq (s : State) (x : Queued) : s.enqueue x = { s with dis := { s.dis with
    queue := if s.dis.queue.contains x then s.dis.queue else s.dis.queue ++ [x] } } := by
  unfold enqueue
  cases s.dis.queue.contains x <;> rfl

theorem tryPlaceFrame_of_held {s : State} (h : s.frameOut = true ∨ s.classThree = true) : s.tryPlaceFrame = s := by
  unfold tryPlaceFrame
  exact if_pos (Bool.or_eq_true_iff.2 h)

theorem tryPlaceFrame_dcancel {s : State} {rest : List Queued} {own : Nat} (hf : s.frameOut = false)
    (hc : s.classThree = false) (hq : s.dis.queue = .dcancel :: rest) (hown : s.cfg.ownCall = some own) :
    s.tryPlaceFrame = { s with
      dis := { s.dis with queue := rest }
      enc := { s.enc with frame := some { kind := .dcancel, fields := s.cancelFields own, placed := s.now } } } := by
  unfold tryPlaceFrame
  rw [hf, hc, hq, hown]
  exact placeFrame_eq (s := { s with dis := { s.dis with queue := rest } }) (Option.isSome_of_eq_some hown) _

theorem tryPlaceFrame_relay {s : State} {rest : List Queued} {own origin : Nat} {e : DistressEntry}
    (hf : s.frameOut = false) (hc : s.classThree = false) (hq : s.dis.queue = .relay origin :: rest)
    (hown : s.cfg.ownCall = some own) (he : s.distressEntry origin = some e) :
    s.tryPlaceFrame = State.onEntry { s with
      dis := { s.dis with queue := rest }
      enc := { s.enc with frame := some { kind := .relay, fields := e.relayFields own, placed := s.now } } }
      origin fun e => { e with relay := .sent, holdOff := none, due := false } := by
  unfold tryPlaceFrame
  rw [hf, hc, hq, hown]
  dsimp only
  rw [he]
  exact congrArg (fun t => State.onEntry t origin fun e => { e with relay := .sent, holdOff := none, due := false })
    (placeFrame_eq (s := { s with dis := { s.dis with queue := rest } }) (Option.isSome_of_eq_some hown) _)

theorem queueFrame_of_held {s : State} (h : s.frameOut = true ∨ s.classThree = true) (x : Queued) :
    s.queueFrame x = { s with dis := { s.dis with
      queue := if s.dis.queue.contains x then s.dis.queue else s.dis.queue ++ [x] } } := by
  unfold queueFrame
  rw [enqueue_eq]
  exact tryPlaceFrame_of_held h

theorem enqueue_of_nil {s : State} (h : s.dis.queue = []) (x : Queued) :
    s.enqueue x = { s with dis := { s.dis with queue := [x] } } := by
  rw [enqueue_eq, h]
  rfl

theorem queueFrame_dcancel {s : State} {own : Nat} (hf : s.frameOut = false) (hc : s.classThree = false)
    (hq : s.dis.queue = []) (hown : s.cfg.ownCall = some own) : s.queueFrame .dcancel = { s with enc := { s.enc with
      frame := some { kind := .dcancel, fields := s.cancelFields own, placed := s.now } } } := by
  unfold queueFrame
  rw [enqueue_of_nil hq]
  refine (tryPlaceFrame_dcancel (s := { s with dis := { s.dis with queue := [.dcancel] } }) hf hc rfl hown).trans ?_
  exact congrArg (fun q => ({ s with
    dis := { s.dis with queue := q }
    enc := { s.enc with frame := some { kind := .dcancel, fields := s.cancelFields own, placed := s.now } } } : State))
    hq.symm

theorem queueFrame_relay {s : State} {own origin : Nat} {e : DistressEntry} (hf : s.frameOut = false)
    (hc : s.classThree = false) (hq : s.dis.queue = []) (hown : s.cfg.ownCall = some own)
    (he : s.distressEntry origin = some e) : s.queueFrame (.relay origin) = State.onEntry { s with enc := { s.enc with
      frame := some { kind := .relay, fields := e.relayFields own, placed := s.now } } }
      origin fun e => { e with relay := .sent, holdOff := none, due := false } := by
  unfold queueFrame
  rw [enqueue_of_nil hq]
  refine (tryPlaceFrame_relay (s := { s with dis := { s.dis with queue := [.relay origin] } }) hf hc rfl hown he).trans ?_
  exact congrArg (fun q => State.onEntry { s with
    dis := { s.dis with queue := q }
    enc := { s.enc with frame := some { kind := .relay, fields := e.relayFields own, placed := s.now } } }
    origin fun e => { e with relay := .sent, holdOff := none, due := false }) hq.symm

theorem origin_of_distressEntry {s : State} {origin : Nat} {e : DistressEntry} (h : s.distressEntry origin = some e) :
    e.origin = origin := by
  simpa using List.find?_some h

/-- A change that leaves the origin alone shows in the entry. -/
theorem distressEntry_onEntry {s : State} {origin : Nat} {e : DistressEntry} (h : s.distressEntry origin = some e)
    {f : DistressEntry → DistressEntry} (hf : ∀ x, (f x).origin = x.origin) :
    (s.onEntry origin f).distressEntry origin = some (f e) := by
  have hcomp : (fun x : DistressEntry => decide (x.origin = origin)) ∘ (fun x => if x.origin = origin then f x else x) =
      fun x => decide (x.origin = origin) := by
    funext x
    simp only [Function.comp_apply, apply_ite DistressEntry.origin, hf, ite_self]
  unfold distressEntry onEntry
  rw [List.find?_map, hcomp]
  refine (congrArg (Option.map _) h).trans ?_
  rw [Option.map_some, if_pos (origin_of_distressEntry h)]

theorem onEntry_onEntry (s : State) (origin : Nat) {f g : DistressEntry → DistressEntry}
    (hf : ∀ x, (f x).origin = x.origin) :
    (s.onEntry origin f).onEntry origin g = s.onEntry origin fun x => g (f x) := by
  unfold onEntry
  rw [List.map_map]
  refine congrArg (fun l => { s with dis := { s.dis with list := l } }) (List.map_congr_left fun x _ => ?_)
  by_cases hx : x.origin = origin
  · simp only [Function.comp_apply, if_pos hx, if_pos ((hf x).trans hx)]
  · simp only [Function.comp_apply, if_neg hx]

end State

/-- Settles O35: a frame due joins the queue, and the queue's head is placed only with the position free and no session of
class 3. -/
theorem dueFramesJoinTheFrameQueue : Obligations.DueFramesJoinTheFrameQueue := by
  refine ⟨fun s g hlow hg hle => ?_, fun s origin h at_ e hlow he hrelay hdue hh hle => ?_⟩
  · have hexec : exec .cancelGapExpiry s = .next s.gapOver := State.timed_due hlow (State.reached_of hg hle) _
    refine ⟨fun hheld => hexec.trans (congrArg _ (State.queueFrame_of_held
        (s := { s with dis := { s.dis with gapAt := none } }) hheld .dcancel)),
      fun own serial hf hc hq hown hserial => hexec.trans (congrArg _ ((State.queueFrame_dcancel
        (s := { s with dis := { s.dis with gapAt := none } }) hf hc hq hown).trans ?_))⟩
    unfold State.cancelFields
    rw [hserial]
    rfl
  · have hexec : exec (.holdOffExpiry origin) s = .next (s.holdOffOver e) := by
      refine State.timedOn_some hlow ?_ _
      have hready : e.holdOffDue s.now = true := by
        unfold DistressEntry.holdOffDue
        rw [hrelay, hdue, hh]
        exact decide_eq_true hle
      unfold State.entryWhen
      rw [he]
      exact if_pos hready
    unfold State.holdOffOver at hexec
    rw [State.origin_of_distressEntry he] at hexec
    refine ⟨fun hheld => hexec.trans (congrArg _ (State.queueFrame_of_held
        (s := s.onEntry origin fun x => { x with due := true }) hheld (.relay origin))),
      fun own hf hc hq hown => hexec.trans (congrArg _ ((State.queueFrame_relay
        (s := s.onEntry origin fun x => { x with due := true }) hf hc hq hown
        (State.distressEntry_onEntry he fun _ => rfl)).trans ?_))⟩
    exact State.onEntry_onEntry { s with enc := { s.enc with
      frame := some { kind := .relay, fields := e.relayFields own, placed := s.now } } } origin fun _ => rfl

/-! ### ACKNOWLEDGE ALERT -/

namespace State

theorem ackEntry_of_acked {e : DistressEntry} (s : State) (h : e.bridgeAck = true) : s.ackEntry e = e := by
  unfold ackEntry
  exact if_pos h

theorem ackEntry_of_stays {s : State} {e : DistressEntry} (h : e.bridgeAck = false)
    (hstays : s.cfg.relayMode ≠ .bridge ∨ s.cfg.ownCall = none ∨ e.relay ≠ .idle) :
    s.ackEntry e = { e with bridgeAck := true, watch := .stopped } := by
  unfold ackEntry
  rw [h]
  rcases hstays with hmode | hown | hrelay
  · cases hm : s.cfg.relayMode with
    | bridge => exact absurd hm hmode
    | off => rfl
    | auto => rfl
  · rw [hown]
    cases s.cfg.relayMode <;> rfl
  · cases s.cfg.ownCall with
    | none => cases s.cfg.relayMode <;> rfl
    | some own =>
      cases s.cfg.relayMode with
      | bridge => exact if_neg hrelay
      | off => rfl
      | auto => rfl

theorem ackEntry_of_idle {s : State} {e : DistressEntry} {own : Nat} (h : e.bridgeAck = false)
    (hmode : s.cfg.relayMode = .bridge) (hown : s.cfg.ownCall = some own) :
    s.ackEntry e = DistressEntry.startHoldOff { e with bridgeAck := true, watch := .stopped } own s.now := by
  unfold ackEntry
  rw [h, hmode, hown]
  rfl

theorem bridgeAck_ackEntry (s : State) (e : DistressEntry) : (s.ackEntry e).bridgeAck = true := by
  cases h : e.bridgeAck with
  | true => rw [ackEntry_of_acked s h, h]
  | false =>
    cases hown : s.cfg.ownCall with
    | none => rw [ackEntry_of_stays h (.inr (.inl hown))]
    | some own =>
      by_cases hmode : s.cfg.relayMode = .bridge
      · by_cases hrelay : e.relay = .idle
        · rw [ackEntry_of_idle h hmode hown, DistressEntry.startHoldOff, if_pos hrelay]
        · rw [ackEntry_of_stays h (.inr (.inr hrelay))]
      · rw [ackEntry_of_stays h (.inl hmode)]

end State

theorem alarmOf_acked {l : List DistressEntry} (h : ∀ e ∈ l, e.bridgeAck = true) : alarmOf l = .off := by
  have hexp : (l.any fun e => !e.bridgeAck && decide (e.watch = .expired)) = false :=
    List.any_eq_false.2 fun e he => by rw [h e he]; exact Bool.false_ne_true
  have hopen : (l.any fun e => !e.bridgeAck) = false :=
    List.any_eq_false.2 fun e he => by rw [h e he]; exact Bool.false_ne_true
  unfold alarmOf
  rw [hexp, hopen]
  rfl

theorem unacked_acked {d : Distress} (h : ∀ e ∈ d.list, e.bridgeAck = true) : d.unacked.length = 0 := by
  rw [Distress.unacked, List.filter_eq_nil_iff.2 fun e he => by rw [h e he]; exact Bool.false_ne_true]
  rfl

/-- Settles O34: one entry, all of them or none is acknowledged, and ALARM follows the list. -/
theorem acknowledgeAlertStopsTheWatch : Obligations.AcknowledgeAlertStopsTheWatch := by
  intro s r ht hb
  have hexec : exec (.acknowledgeAlert r) s = .next (s.reqAck r) := State.taken_bridge ht hb clsAck _
  refine ⟨fun hsel => hexec.trans (congrArg _ ?_), fun origin hsel => ⟨fun he => hexec.trans (congrArg _ ?_),
    fun e he => ⟨(s.ackEntries fun x => x.origin = origin).result 66 r .done
      [flag e.bridgeAck, .num 1 (s.ackEntries fun x => x.origin = origin).dis.unacked.length],
      s.ackEntries fun x => x.origin = origin, hexec.trans (congrArg _ ?_), rfl, rfl, ?_, rfl, rfl, rfl,
      rfl, rfl⟩⟩, fun hsel => ?_, fun e => ⟨s.ackEntry_of_acked, State.ackEntry_of_stays,
        fun own h hmode hown hrelay => (State.ackEntry_of_idle h hmode hown).trans (if_pos hrelay)⟩⟩
  · unfold State.reqAck
    rw [hsel]
    rfl
  · unfold State.reqAck
    rw [hsel]
    dsimp only
    rw [he]
    rfl
  · unfold State.reqAck
    rw [hsel]
    dsimp only
    rw [he]
    rfl
  · exact List.map_congr_left fun x _ => if_congr (decide_eq_true_iff) rfl rfl
  · have hacked : ∀ e ∈ (s.ackEntries fun _ => true).dis.list, e.bridgeAck = true := by
      intro e he
      obtain ⟨x, -, rfl⟩ := List.mem_map.1 he
      exact s.bridgeAck_ackEntry x
    have hoff := alarmOf_acked hacked
    refine ⟨(s.ackEntries fun _ => true).result 66 r .done [.num 1 s.dis.unacked.length, .num 1 0],
      s.ackEntries fun _ => true, hexec.trans (congrArg _ ?_), rfl, rfl, rfl, hacked, hoff, ?_⟩
    · unfold State.reqAck
      rw [hsel, ← unacked_acked hacked]
      rfl
    · exact if_neg fun hp => by cases hoff.symm.trans hp

/-! ### RAISE DISTRESS -/

namespace State

/-- Silence and the break do not touch the distress unit: the link controller alone moves. -/
theorem breakAndRestrict_eq (s : State) : ∃ gen link,
    (s.demandBreak .distress).restrictAttempt = s.withLink gen link ∧
    (s.link.phase.running = true → s.link.pendingBreak = none → link.pendingBreak = some .distress) := by
  have hd := s.demandBreak_eq .distress
  obtain ⟨gen, link, hr⟩ := (s.demandBreak .distress).restrictAttempt_eq
  refine ⟨gen, link, hr.trans (by rw [hd]; rfl), fun hrun hnone => ?_⟩
  have hsame : (s.demandBreak .distress).restrictAttempt = s.demandBreak .distress :=
    restrictAttempt_of_running (by rw [hd]; exact hrun)
  have hlink : link = (s.demandBreak .distress).link := congrArg State.link (hr.symm.trans hsame)
  rw [hlink, hd]
  exact if_pos (by rw [hrun, hnone]; simp)

/-- The distress unit as a raise in NONE leaves it, before its first burst. -/
def alertRaised (s : State) (nature : Nat) : State :=
  let n := nextAlertSerial s.dis.counter
  { s with dis := { s.dis with
      own := .alerting, counter := n, serial := some n, nature := some nature, alertTime := s.tod.map hhmmOf,
      bursts := 0, burstAt := none } }

theorem enterAlerting_eq {s : State} {own : Nat} (hout : s.burstOut = false) (hown : s.cfg.ownCall = some own)
    (nature : Nat) : ∃ gen link, s.enterAlerting nature = ((s.alertRaised nature).withLink gen link).burstPlaced own ∧
      (s.link.phase.running = true → s.link.pendingBreak = none → link.pendingBreak = some .distress) := by
  obtain ⟨gen, link, h, hbreak⟩ := (s.alertRaised nature).breakAndRestrict_eq
  refine ⟨gen, link, ?_, hbreak⟩
  exact (congrArg placeBurst h).trans (placeBurst_placed (s := (s.alertRaised nature).withLink gen link) hout hown)

theorem raiseAgain_acknowledged {s : State} (h : s.dis.own = .acknowledged) (nature : Nat) :
    s.raiseAgain (some nature) =
      State.placeBurst { s with dis := { s.dis with own := .alerting, nature := some nature } } := by
  unfold raiseAgain
  dsimp only
  rw [h]

theorem raiseAgain_alerting {s : State} (h : s.dis.own = .alerting) (nature : Nat) :
    s.raiseAgain (some nature) = { s with dis := { s.dis with nature := some nature } } := by
  unfold raiseAgain
  dsimp only
  rw [h]

theorem raiseInForce_of_pending {s : State} (h : s.dis.own = .cancelPending) (nature : Option Nat) :
    s.raiseInForce nature = s.endPending.raiseAgain nature := if_pos h

theorem endPending_alerting {s : State} (h : s.dis.prevAck = false) :
    s.endPending = { s with dis := { s.dis with own := .alerting, cancelAt := none } } := by
  unfold endPending
  rw [h]
  rfl

theorem raiseInForce_of_not_pending {s : State} (h : s.dis.own ≠ .cancelPending) (nature : Option Nat) :
    s.raiseInForce nature = s.raiseAgain nature := if_neg h

/-- RAISE DISTRESS once the nature is a letter and the part has a call. -/
theorem reqRaise_eq {s : State} {r : Request} {nature : Byte} {rest : List Byte} (hp : r.params = nature :: rest)
    (hlo : 65 ≤ nature.toNat) (hhi : nature.toNat ≤ 90) (hown : s.cfg.ownCall ≠ none) :
    s.reqRaise r = (match s.dis.own with
      | .none => (s.enterAlerting nature.toNat).result clsRaise r .done [(s.enterAlerting nature.toNat).serialField]
      | .cancelling => s.result clsRaise r .state []
      | _ => (s.raiseInForce (some nature.toNat)).result clsRaise r .done []) := by
  have hn : numAt r.params 0 1 = some nature.toNat := numAt_one (by rw [hp]; rfl)
  have hletter : isLetter nature.toNat = true := by
    unfold isLetter
    rw [decide_eq_true hlo, decide_eq_true hhi]
    rfl
  have hcall : s.cfg.ownCall.isNone = false := by
    rw [Option.isNone_eq_false_iff, Option.isSome_iff_ne_none]
    exact hown
  unfold reqRaise
  rw [hn]
  dsimp only
  rw [hletter, hcall]
  rfl

/-- A raise that reopens the alert goes through one placing, whichever state it leaves. -/
theorem reqRaise_reopens {s : State} {r : Request} {nature : Byte} {rest : List Byte} (hp : r.params = nature :: rest)
    (hlo : 65 ≤ nature.toNat) (hhi : nature.toNat ≤ 90) (hown : s.cfg.ownCall ≠ none)
    (h : s.dis.own = .acknowledged ∨ (s.dis.own = .cancelPending ∧ s.dis.prevAck = true)) :
    ∃ cancelAt, (s.dis.own = .cancelPending → cancelAt = none) ∧ s.reqRaise r = State.result (State.placeBurst { s with
      dis := { s.dis with own := .alerting, cancelAt := cancelAt, nature := some nature.toNat } }) 64 r .done [] := by
  have hreq := reqRaise_eq hp hlo hhi hown
  rcases h with h | ⟨h, hprev⟩
  · refine ⟨s.dis.cancelAt, fun hpend => (nomatch h.symm.trans hpend), ?_⟩
    rw [hreq, h]
    dsimp only
    rw [raiseInForce_of_not_pending (fun hpend => nomatch h.symm.trans hpend), raiseAgain_acknowledged h]
    rfl
  · refine ⟨none, fun _ => rfl, ?_⟩
    rw [hreq, h]
    dsimp only
    rw [raiseInForce_of_pending h, raiseAgain_acknowledged (by unfold endPending; rw [hprev]; rfl)]
    rfl

end State

/-- Settles O30: each own state has its clause; the first burst and a reopened one go through the one placing. -/
theorem raiseDistressActsByItsState : Obligations.RaiseDistressActsByItsState := by
  refine ⟨fun s r nature rest own ht hb hp hlo hhi hown ho hout => ?_, fun s r ht hb hp => ?_,
    fun s r nature rest ht hb hp => ⟨fun hbad => ?_, fun hlo hhi => ⟨fun hown => ?_, fun hown ho => ?_,
      fun hown ho => ?_, fun hown ho hprev => ?_, fun own hown ho => ?_⟩⟩⟩
  all_goals have hexec : exec (.raiseDistress r) s = .next (s.reqRaise r) := State.taken_bridge ht hb clsRaise _
  · obtain ⟨gen, link, h, hbreak⟩ := State.enterAlerting_eq hout hown nature.toNat
    refine ⟨(((s.alertRaised nature.toNat).withLink gen link).burstPlaced own).result 64 r .done
        [.num 1 (s.dis.counter % 99 + 1)], ((s.alertRaised nature.toNat).withLink gen link).burstPlaced own,
      hexec.trans (congrArg _ ?_), rfl, rfl, rfl, rfl, rfl, rfl, Option.or_self, rfl, rfl, rfl, rfl, rfl, rfl, rfl,
      hbreak, rfl, rfl, rfl, rfl, rfl⟩
    rw [State.reqRaise_eq hp hlo hhi (by rw [hown]; exact Option.some_ne_none own), ho, h]
    rfl
  · refine hexec.trans (congrArg _ ?_)
    unfold State.reqRaise
    rw [hp]
    rfl
  · refine hexec.trans (congrArg _ ?_)
    have hletter : isLetter nature.toNat = false := by
      unfold isLetter
      rw [Bool.and_eq_false_iff, decide_eq_false_iff_not, decide_eq_false_iff_not, Nat.not_le, Nat.not_le]
      exact hbad
    rw [State.reqRaise, numAt_one (b := nature) (by rw [hp]; rfl)]
    dsimp only
    rw [hletter]
    rfl
  · refine hexec.trans (congrArg _ ?_)
    rw [State.reqRaise, numAt_one (b := nature) (by rw [hp]; rfl)]
    dsimp only
    unfold isLetter
    rw [decide_eq_true hlo, decide_eq_true hhi, hown]
    rfl
  · refine hexec.trans (congrArg _ ?_)
    rw [State.reqRaise_eq hp hlo hhi hown, ho]
    rfl
  · refine hexec.trans (congrArg _ ?_)
    rw [State.reqRaise_eq hp hlo hhi hown, ho]
    dsimp only
    rw [State.raiseInForce_of_not_pending (fun hpend => nomatch ho.symm.trans hpend), State.raiseAgain_alerting ho]
    rfl
  · refine hexec.trans (congrArg _ ?_)
    rw [State.reqRaise_eq hp hlo hhi hown, ho]
    dsimp only
    rw [State.raiseInForce_of_pending ho, State.endPending_alerting hprev, State.raiseAgain_alerting rfl]
    rfl
  · obtain ⟨cancelAt, hcancel, hreq⟩ :=
      State.reqRaise_reopens hp hlo hhi (by rw [hown]; exact Option.some_ne_none own) ho
    cases hout : s.burstOut with
    | true =>
      have hplaced := congrArg (fun u => State.result u 64 r .done []) (State.placeBurst_of_out
        (s := { s with dis := { s.dis with own := .alerting, cancelAt := cancelAt, nature := some nature.toNat } }) hout)
      exact ⟨_, _, hexec.trans (congrArg _ (hreq.trans hplaced)), rfl, rfl, rfl, rfl, rfl, rfl, rfl, rfl, hcancel,
        fun _ => rfl, fun h => (Bool.false_ne_true h.symm).elim, rfl, rfl, rfl⟩
    | false =>
      have hplaced := congrArg (fun u => State.result u 64 r .done []) (State.placeBurst_placed
        (s := { s with dis := { s.dis with own := .alerting, cancelAt := cancelAt, nature := some nature.toNat } })
        hout hown)
      exact ⟨_, _, hexec.trans (congrArg _ (hreq.trans hplaced)), rfl, rfl, rfl, rfl, rfl, rfl, rfl, rfl, hcancel,
        fun h => (Bool.false_ne_true h).elim, fun _ => ⟨rfl, rfl⟩, rfl, rfl, rfl⟩

end Sys2Proof.Machine
end

section
/-! PROOFS. The character code both ways, blocks and replies read back, and what transmissions take (O6, O7, O60). -/

namespace Sys2Proof.Machine

/-! ### The character code -/

theorem unrank_length : ∀ n k i : Nat, (unrank n k i).length = n
  | 0, _, _ => rfl
  | n + 1, k, i => by
    unfold unrank
    split
    · exact congrArg (· + 1) (unrank_length n k i)
    · exact congrArg (· + 1) (unrank_length n (k - 1) _)

/-- Below its count, a rank is that of one value with that many ones. -/
theorem rank_unrank : ∀ {n k i : Nat}, i < Nat.choose n k → onesOf (unrank n k i) = k ∧ rankOf (unrank n k i) k = i
  | 0, 0, 0, _ => ⟨rfl, rfl⟩
  | n + 1, k, i, h => by
    unfold unrank
    split
    · next hlt => exact rank_unrank hlt
    · next hge =>
      cases k with
      | zero => exact absurd (h.trans_eq ((Nat.choose_zero_right _).trans (Nat.choose_zero_right n).symm)) hge
      | succ k =>
        have hrest : i - Nat.choose n (k + 1) < Nat.choose n k :=
          Nat.sub_lt_right_of_lt_add (Nat.le_of_not_lt hge) (h.trans_eq (Nat.choose_succ_succ n k))
        obtain ⟨hones, hrank⟩ := rank_unrank hrest
        refine ⟨congrArg (· + 1) hones, ?_⟩
        show Nat.choose (unrank n k _).length (k + 1) + rankOf (unrank n k _) k = i
        rw [unrank_length, hrank]
        exact Nat.add_sub_of_le (Nat.le_of_not_lt hge)

/-- Every value is that of its rank among those with as many ones. -/
theorem unrank_rank : ∀ bits : List Bool, rankOf bits (onesOf bits) < Nat.choose bits.length (onesOf bits) ∧
    unrank bits.length (onesOf bits) (rankOf bits (onesOf bits)) = bits
  | [] => ⟨Nat.one_pos, rfl⟩
  | false :: bits => by
    obtain ⟨hlt, heq⟩ := unrank_rank bits
    refine ⟨hlt.trans_le (Nat.choose_le_choose _ (Nat.le_succ _)), ?_⟩
    exact (if_pos hlt).trans (congrArg (false :: ·) heq)
  | true :: bits => by
    obtain ⟨hlt, heq⟩ := unrank_rank bits
    have hrank : rankOf (true :: bits) (onesOf (true :: bits)) =
        Nat.choose bits.length (onesOf bits + 1) + rankOf bits (onesOf bits) := rfl
    rw [hrank]
    refine ⟨?_, ?_⟩
    · rw [Nat.add_comm]
      exact (Nat.add_lt_add_right hlt _).trans_eq (Nat.choose_succ_succ bits.length (onesOf bits)).symm
    · refine (if_neg (Nat.not_lt.2 (Nat.le_add_right _ _))).trans (congrArg (true :: ·) ?_)
      exact (congrArg (unrank bits.length (onesOf bits)) (Nat.add_sub_cancel_left _ _)).trans heq

theorem codeIndex_codeword {i : Nat} (h : i < 126) : codeIndex (codeword i) = some i := by
  obtain ⟨hones, hrank⟩ := rank_unrank (n := 9) (k := 5) h
  exact (if_pos ⟨unrank_length 9 5 i, hones⟩).trans (congrArg some hrank)

/-- In a sequence of codewords the bit `j` of the `k`th stands at `9 k + j`. -/
theorem getD_codewords : ∀ {slots : List Nat} {k c j : Nat}, slots[k]? = some c → j < 9 →
    ((slots.map codeword).flatten).getD (9 * k + j) false = (codeword c).getD j false
  | d :: rest, 0, c, j, h, hj => by
    cases h
    rw [Nat.mul_zero, Nat.zero_add]
    exact List.getD_append _ _ _ _ (hj.trans_eq (unrank_length 9 5 d).symm)
  | d :: rest, k + 1, c, j, h, hj => by
    refine Eq.trans ?_ (getD_codewords (slots := rest) h hj)
    have hat : 9 * (k + 1) + j = (codeword d).length + (9 * k + j) := by
      unfold codeword
      rw [unrank_length, Nat.mul_succ, Nat.add_comm (9 * k) 9, Nat.add_assoc]
    rw [hat]
    exact (List.getD_append_right _ _ _ _ (Nat.le_add_right _ _)).trans
      (congrArg (List.getD _ · false) (Nat.add_sub_cancel_left _ _))

/-- Settles O60: rank and unrank are inverse, and the symbol of a moment stands in its character's codeword. -/
theorem charactersAreSentAsCodewords : Obligations.CharactersAreSentAsCodewords := by
  refine ⟨⟨fun i hi => ⟨unrank_length 9 5 i, (rank_unrank (n := 9) (k := 5) hi).1, codeIndex_codeword hi⟩,
    fun bits hlen => ⟨fun hones => ?_, fun hones => if_neg fun h => hones h.2⟩⟩, fun s hkey => ?_,
    fun s x k j c hx hj hc hlo hhi => ⟨?_, ?_⟩⟩
  · obtain ⟨hlt, heq⟩ := unrank_rank bits
    rw [hlen, hones] at hlt heq
    exact ⟨rankOf bits 5, hlt, heq⟩
  · unfold State.txd
    rw [Option.isSome_eq_false_iff.1 hkey |> Option.isNone_iff_eq_none.1]
  · exact Option.isSome_of_eq_some hx
  · have hat : (s.now - x.start) / 10 = 9 * k + j := by
      refine Nat.div_eq_of_lt_le ?_ ?_
      · rw [Nat.add_mul, Nat.mul_right_comm, Nat.mul_comm j]
        exact Nat.le_sub_of_add_le' ((Nat.add_assoc _ _ _).symm.trans_le hlo)
      · rw [Nat.succ_mul, Nat.add_mul, Nat.mul_right_comm, Nat.mul_comm j]
        exact Nat.sub_lt_left_of_lt_add ((Nat.le_add_right _ _).trans ((Nat.add_assoc _ _ _).symm.trans_le hlo))
          (hhi.trans_eq ((congrArg (· + 10) (Nat.add_assoc _ _ _)).trans (Nat.add_assoc _ _ _)))
    unfold State.txd
    rw [hx]
    exact (congrArg (List.getD _ · false) hat).trans (getD_codewords hc hj)

/-! ### What transmissions take -/

theorem length_flatten_of {α β : Type} {f : α → List β} {n : Nat} : ∀ {l : List α}, (∀ a ∈ l, (f a).length = n) →
    (l.map f).flatten.length = n * l.length
  | [], _ => rfl
  | a :: l, h => by
    rw [List.map_cons, List.flatten_cons, List.length_append, h a (List.mem_cons_self ..),
      length_flatten_of fun b hb => h b (List.mem_cons_of_mem _ hb), List.length_cons, Nat.mul_succ, Nat.add_comm]

/-- With less than 64 pairs no marker pair stands in a spread transmission. -/
theorem length_spreadSlots {chars : List Nat} (h : chars.length + 4 ≤ 64) :
    (spreadSlots chars).length = 24 + 2 * (chars.length + 4) := by
  have hpair : ∀ j ∈ List.range (chars.length + 4), (pairSlots chars j).length = 2 := by
    intro j hj
    have hnone : ¬((j + 1) % 64 = 0 ∧ j + 1 < chars.length + 4) := fun ⟨hmod, hlt⟩ =>
      Nat.succ_ne_zero j ((Nat.mod_eq_of_lt (hlt.trans_le h)).symm.trans hmod)
    exact congrArg List.length (if_neg hnone)
  unfold spreadSlots
  rw [List.length_append, length_flatten_of hpair, List.length_range]
  rfl

/-- Settles O7: the slots are those of the phasing, the characters and the flush, and the fields those listed. -/
theorem transmissionsTakeTheirTimes : Obligations.TransmissionsTakeTheirTimes := by
  refine ⟨fun r hr => ?_, fun e own hp => ?_, fun s own => ?_, fun r => ⟨fun hk hlen => ?_, fun hk hlen => ?_⟩⟩
  · have hchars : (r.kind.type.index :: r.fields ++ [cEnd, cEnd, cEnd]).length = r.fields.length + 4 := by
      rw [List.length_append]
      rfl
    have hfields : r.fields.length ≤ 27 := by
      rw [hr]
      cases r.kind <;> exact Nat.le_of_ble_eq_true rfl
    have hshort : (r.kind.type.index :: r.fields ++ [cEnd, cEnd, cEnd]).length + 4 ≤ 64 := by
      rw [hchars]
      exact (Nat.add_le_add_right hfields 8).trans (Nat.le_of_ble_eq_true rfl)
    have hslots : r.slots.length = 24 + 2 * (r.fields.length + 8) :=
      (length_spreadSlots hshort).trans (by rw [hchars])
    refine ⟨?_, hslots.trans ((Nat.mul_add 2 12 (r.fields.length + 8)).symm.trans
      (congrArg (2 * ·) (Nat.add_assoc 12 (r.fields.length + 4) 4).symm))⟩
    rw [hslots, hr]
    cases r.kind <;> rfl
  · have hpos : (e.position.getD (queries 11)).length = 11 := by
      cases h : e.position with
      | none => exact List.length_replicate
      | some p => exact hp p h
    refine List.length_take_of_le (Nat.le_of_lt ?_)
    unfold DistressEntry.relayListed
    simp [hpos, FrameType.fields]
  · unfold State.cancelFields
    simp
  · unfold LinkReq.slots
    rw [hk]
    exact congrArg (90 * ·) hlen
  · have hslots : r.slots = blockSlots r.chars := by
      unfold LinkReq.slots
      split
      · next h => exact absurd h hk
      · rfl
    rw [hslots, blockSlots, List.length_append, hlen]
    rfl

/-! ### Blocks and replies read back -/

theorem bits_append {syms : List Sym} {w rest : List Bool} (h : syms.map (·.bit) = w ++ rest) :
    (syms.take w.length).map (·.bit) = w ∧ (syms.drop w.length).map (·.bit) = rest := by
  rw [List.map_take, List.map_drop, h]
  exact ⟨List.take_left, List.drop_left⟩

/-- Codewords are read as the characters they carry. -/
theorem readCopies_codewords : ∀ {chars : List Nat} {syms : List Sym}, (∀ c ∈ chars, c < 126) →
    syms.map (·.bit) = (chars.map codeword).flatten →
      (readCopies chars.length syms).map (·.index) = chars.map some ∧ syms.length = 9 * chars.length
  | [], syms, _, h => ⟨rfl, congrArg List.length (List.map_eq_nil_iff.1 h)⟩
  | c :: chars, syms, hc, h => by
    obtain ⟨hhead, htail⟩ := bits_append (w := codeword c) h
    unfold codeword at hhead
    rw [unrank_length, ← codeword] at hhead
    rw [codeword, unrank_length] at htail
    obtain ⟨hcopies, hlen⟩ := readCopies_codewords (fun d hd => hc d (List.mem_cons_of_mem _ hd)) htail
    have hindex : (readCopy (syms.take 9)).index = some c :=
      (congrArg codeIndex hhead).trans (codeIndex_codeword (hc c (List.mem_cons_self ..)))
    refine ⟨List.cons_eq_cons.2 ⟨hindex, hcopies⟩, ?_⟩
    have htotal := congrArg List.length h
    rw [List.length_map, List.map_cons, List.flatten_cons, List.length_append, ← htail, List.length_map, hlen,
      codeword, unrank_length, Nat.add_comm] at htotal
    exact htotal

theorem Copy.valid_of_index {c : Copy} {i : Nat} (h : c.index = some i) (hi : i < 120) : c.valid = true := by
  unfold Copy.valid
  rw [h]
  exact decide_eq_true hi

theorem blockTypeOf_index (t : BlockType) : blockTypeOf t.index = some t := by cases t <;> rfl

theorem replyTypeOf_index (t : ReplyType) : replyTypeOf t.index = some t := by cases t <;> rfl

theorem readBlock_of {syms : List Sym} {chars : List Nat} {t : BlockType} (hlen : syms.length = 72)
    (hchars : ((readCopies 8 syms).take 7).map (fun c => c.index.getD 0) = chars)
    (hvalid : ((readCopies 8 syms).take 7).all Copy.valid = true) (ht : blockTypeOf (chars.getD 0 0) = some t)
    (hd : digitAllowed t (chars.getD 1 0) = true)
    (hcheck : ((readCopies 8 syms).getD 7 { index := none, conf := 0 }).index = some (checkOf chars)) :
    readBlock syms = some { kind := t, digit := chars.getD 1 0 - 16, payload := chars.drop 2 } := by
  subst hchars
  unfold readBlock
  rw [if_pos hlen]
  dsimp only
  rw [ht]
  dsimp only
  rw [hvalid, hd, hcheck, beq_self_eq_true]
  rfl

/-- Seven characters that make a block, with their check character, are read back whatever the symbols' confidences. -/
theorem readBlock_sent {syms : List Sym} {chars : List Nat} {t : BlockType} (hseven : chars.length = 7)
    (hc : ∀ c ∈ chars, c < 120) (ht : blockTypeOf (chars.getD 0 0) = some t)
    (hd : digitAllowed t (chars.getD 1 0) = true)
    (hsyms : syms.map (·.bit) = ((blockSlots chars).map codeword).flatten) :
    readBlock syms = some { kind := t, digit := chars.getD 1 0 - 16, payload := chars.drop 2 } := by
  have height : (blockSlots chars).length = 8 := by unfold blockSlots; rw [List.length_append, hseven]; rfl
  have hlt : ∀ c ∈ blockSlots chars, c < 126 := by
    intro c hmem
    rcases List.mem_append.1 hmem with h | h
    · exact (hc c h).trans (by decide)
    · rw [List.mem_singleton.1 h]
      exact Nat.mod_lt _ (by decide)
  obtain ⟨hcopies, hlen⟩ := readCopies_codewords hlt hsyms
  rw [height] at hcopies hlen
  unfold blockSlots at hcopies
  rw [List.map_append] at hcopies
  have hseven' : (chars.map some).length = 7 := (List.length_map _).trans hseven
  have hfirst : ((readCopies 8 syms).take 7).map (·.index) = chars.map some := by
    rw [List.map_take, hcopies, List.take_left' hseven']
  refine readBlock_of hlen ?_ (List.all_eq_true.2 fun c hmem => ?_) ht hd ?_
  · have hread := congrArg (List.map fun i : Option Nat => i.getD 0) hfirst
    rw [List.map_map, List.map_map] at hread
    exact hread.trans (List.map_id chars)
  · obtain ⟨i, hi, heq⟩ := List.mem_map.1 (hfirst ▸ List.mem_map_of_mem (f := fun c : Copy => c.index) hmem)
    exact Copy.valid_of_index heq.symm (hc i hi)
  · have hlast := congrArg (fun l => l.getD 7 none) hcopies
    rw [List.getD_append_right _ _ _ _ hseven'.le, hseven'] at hlast
    exact (List.getD_map (f := fun c : Copy => c.index) ..).symm.trans hlast

theorem breakReasonOf_lt {i : Nat} (h : (breakReasonOf i).isSome = true) : i < 120 := by
  obtain ⟨r, hr⟩ := Option.isSome_iff_exists.1 h
  have hi := beq_iff_eq.1 (List.find?_some (p := fun r : BreakReason => cText r.letter == i) hr)
  rw [← hi]
  cases r <;> exact Nat.le_of_ble_eq_true rfl

theorem digits_lt {i : Nat} (h : (decide (16 ≤ i) && decide (i ≤ 23)) = true) : i < 120 :=
  (of_decide_eq_true ((Bool.and_eq_true_iff.1 h).2)).trans_lt (by decide)

theorem valueAllowed_lt {t : ReplyType} {i : Nat} (h : valueAllowed t i = true) : i < 120 := by
  cases t with
  | accept => exact (Bool.or_eq_true_iff.1 h).elim digits_lt fun h => (beq_iff_eq.1 h).trans_lt (by decide)
  | request => exact digits_lt h
  | hold => exact digits_lt h
  | ready => exact (beq_iff_eq.1 h).trans_lt (by decide)
  | restart => exact (beq_iff_eq.1 h).trans_lt (by decide)
  | brk => exact breakReasonOf_lt h

theorem readReply_sent {syms : List Sym} {r : Reply} (h : valueAllowed r.kind r.value = true)
    (hsyms : syms.map (·.bit) = (r.chars.map codeword).flatten) : readReply syms = some r := by
  have hkind : r.kind.index < 120 := by cases r.kind <;> exact Nat.le_of_ble_eq_true rfl
  have hlt : ∀ c ∈ r.chars, c < 126 := by
    intro c hmem
    rcases List.mem_cons.1 hmem with rfl | hmem
    · exact hkind.trans (by decide)
    · rw [List.mem_singleton.1 hmem]
      exact (valueAllowed_lt h).trans (by decide)
  obtain ⟨hcopies, hlen⟩ := readCopies_codewords hlt hsyms
  obtain ⟨ha, hrest⟩ := List.cons_eq_cons.1 hcopies
  obtain ⟨hb, -⟩ := List.cons_eq_cons.1 hrest
  dsimp only at ha hb
  unfold readReply
  rw [if_pos (show syms.length = 18 from hlen)]
  dsimp only [readCopies]
  rw [ha, hb]
  dsimp only [Option.getD_some]
  rw [replyTypeOf_index]
  dsimp only
  rw [Copy.valid_of_index ha hkind, Copy.valid_of_index hb (valueAllowed_lt h)]
  exact if_pos h

/-- Settles O6: the codewords are read as their characters, and these as the block or reply they make. -/
theorem linkedBlocksAndRepliesReadBack : Obligations.LinkedBlocksAndRepliesReadBack := by
  refine ⟨fun kind digit payload syms hdigit hlen hpayload hsyms => ?_, fun r syms => readReply_sent⟩
  have hnine : digit ≤ 9 := by
    split at hdigit
    · exact hdigit
    · exact hdigit.trans (by decide)
  have hallowed : digitAllowed kind (cDigit digit) = true := by
    have hlo : decide (16 ≤ 16 + digit) = true := decide_eq_true (Nat.le_add_right 16 digit)
    cases kind with
    | callA => exact Bool.and_eq_true_iff.2 ⟨hlo, decide_eq_true (Nat.add_le_add_left hdigit 16)⟩
    | callB => exact Bool.and_eq_true_iff.2 ⟨hlo, decide_eq_true (Nat.add_le_add_left hdigit 16)⟩
    | _ => exact Bool.and_eq_true_iff.2 ⟨hlo, decide_eq_true (Nat.add_le_add_left hdigit 16)⟩
  refine (readBlock_sent (chars := [kind.index, cDigit digit] ++ payload) (congrArg (· + 2) hlen) (fun c hmem => ?_)
    (blockTypeOf_index kind) hallowed hsyms).trans ?_
  · rcases List.mem_append.1 hmem with h | h
    · rcases List.mem_cons.1 h with rfl | h
      · cases kind <;> exact Nat.le_of_ble_eq_true rfl
      · rw [List.mem_singleton.1 h]
        exact (Nat.add_le_add_left hnine 16).trans_lt (by decide)
    · exact hpayload c h
  · exact congrArg (fun d => some (Block.mk kind d payload)) (Nat.add_sub_cancel_left 16 digit)

end Sys2Proof.Machine
end

section
/-! PROOFS. The link controller outside a session: what a consideration starts and what a backoff ends in (O17, O18). -/

namespace Sys2Proof.Machine

namespace State

/-! ### Considering -/

theorem consider_of_none {s : State} (h : s.openingRecord = none) : s.consider = s := by
  unfold consider
  rw [h]
  exact ite_self s

theorem consider_of_some {s : State} {r : OutRec} (hidle : s.link.phase = .idle) (hclosed : s.configClosed = true)
    (h : s.openingRecord = some r) :
    s.consider = if s.nm.clear
      then State.enterBackoff { s with link := { s.link with
        phase := .clearing, attempt := some { dest := r.dest, opening := r.ref, cls := r.cls } } }
      else { s with link := { s.link with
        phase := .clearing, attempt := some { dest := r.dest, opening := r.ref, cls := r.cls } } } := by
  unfold consider
  rw [if_pos (Bool.and_eq_true_iff.2 ⟨decide_eq_true hidle, hclosed⟩), h]

theorem passes_iff (s : State) (dest cls : Nat) : s.passes dest cls = true ↔
    s.cfg.ownCall ≠ none ∧ (s.dis.own = .none ∨ cls = 3) ∧ (s.silence = false ∨ cls = 3) ∧
      (s.guardOn = false ∨ cls = 3) ∧ s.engaged dest = false ∧
      (s.cfg.portOffice = some dest → s.tooWeak dest = false) := by
  unfold passes ownDistress
  simp only [Bool.and_eq_true, Bool.or_eq_true, Bool.not_eq_true', decide_eq_true_eq, decide_eq_false_iff_not, Bool.and_eq_false_imp, Option.isSome_iff_ne_none, ne_eq, not_not, and_assoc]

end State

/-- Settles O17: the tests one by one, and the opening record that the consideration finds. -/
theorem considerationStartsTheFirstPassingAttempt : Obligations.ConsiderationStartsTheFirstPassingAttempt := by
  refine ⟨State.passes_iff, fun s hlow hidle hclosed hdue => ?_⟩
  have hconf : s.configClosed = true := Option.isNone_iff_eq_none.2 hclosed
  have hexec : exec .consideration s = .next s.considerAgain :=
    State.timed_due hlow (Bool.and_eq_true_iff.2
      ⟨Bool.and_eq_true_iff.2 ⟨decide_eq_true hidle, hconf⟩, decide_eq_true hdue⟩) _
  have hsome (r : OutRec) (h : s.openingRecord = some r) := hexec.trans (congrArg _ (State.consider_of_some
    (s := { s with link := { s.link with considerAt := s.now + 5000 } }) hidle hconf h))
  exact ⟨fun h => hexec.trans (congrArg _ (State.consider_of_none
      (s := { s with link := { s.link with considerAt := s.now + 5000 } }) h)),
    fun r h hclear => (hsome r h).trans (congrArg _ (if_neg (ne_true_of_eq_false hclear))),
    fun r h hclear => ⟨_, Nat.le_of_lt_succ (Config.backoffDraw s.gen.state s.gen.draws).isLt,
      (hsome r h).trans (congrArg _ (if_pos hclear))⟩⟩

namespace State

/-! ### Recording a call and placing a LINK request -/

/-- The state with another station table and counts of it. -/
def withTable (s : State) (table : List Station) (replaced rejected : Nat) : State :=
  { s with nm := { s.nm with table := table, replaced := replaced, rejected := rejected } }

theorem recordCall_eq (s : State) (call : Nat) : ∃ ok table replaced rejected,
    s.recordCall call = (ok, s.withTable table replaced rejected) := by
  unfold recordCall
  split
  · split
    · exact ⟨_, _, _, _, rfl⟩
    · unfold NetMonitor.enter
      split
      · exact ⟨_, _, _, _, rfl⟩
      · split <;> exact ⟨_, _, _, _, rfl⟩
  · exact ⟨_, _, _, _, rfl⟩

theorem namePeer_eq (s : State) (call : Nat) : ∃ table replaced rejected,
    s.namePeer call = s.withTable table replaced rejected := by
  obtain ⟨ok, table, replaced, rejected, h⟩ := s.recordCall_eq call
  unfold namePeer
  rw [h]
  cases ok <;> exact ⟨_, _, _, rfl⟩

theorem placeLink_free {s : State} (hown : s.cfg.ownCall.isSome = true) (hlink : s.enc.link = none) (r : LinkReq) :
    s.placeLink r = { s with enc := { s.enc with link := some r } } := by
  unfold placeLink
  rw [if_pos hown, hlink]

/-- The session that an attempt opens with its first call half. -/
def callingSession (s : State) (a : Attempt) : Session :=
  { newSession a.dest a.cls true none (s.announceCount a.dest) s.now s.now with callCycle := 1 }

/-- CALLING as it is entered, before its peer is named. -/
def intoCalling (s : State) (a : Attempt) : State :=
  { s.startTiming with
    nm := { s.nm with overheard := none }
    link := { s.link with phase := .calling, attempt := some a, session := some (s.callingSession a),
                          counts := .zero, pendingBreak := none } }

theorem enterCalling_eq {s : State} (hown : s.cfg.ownCall.isSome = true) (hlink : s.enc.link = none) (a : Attempt) :
    ∃ table replaced rejected, s.enterCalling a =
      { (s.intoCalling a).withTable table replaced rejected with
        enc := { s.enc with link := some { kind := .callHalf, chars := [105, 16 + a.cls] ++ digitIndexes 5 a.dest,
                                           slotStart := s.now, cls := a.cls, closing := false } } } := by
  obtain ⟨table, replaced, rejected, h⟩ := (s.intoCalling a).namePeer_eq a.dest
  exact ⟨table, replaced, rejected, (congrArg (fun t => State.placeCall t (s.callingSession a)) h).trans
    (placeLink_free (s := (s.intoCalling a).withTable table replaced rejected) hown hlink _)⟩

end State

/-- Settles O18: the attempt's tests decide between the entry to CALLING and the return to IDLE. -/
theorem backoffEndsInCallingOrIdle : Obligations.BackoffEndsInCallingOrIdle := by
  intro s a hlow hphase ha hdue
  have hexec : exec .backoffEnd s = .next s.backoffOver :=
    State.timed_due hlow (Bool.and_eq_true_iff.2 ⟨decide_eq_true hphase, decide_eq_true hdue⟩) _
  unfold State.backoffOver at hexec
  rw [ha] at hexec
  refine ⟨fun hlink hpass ⟨r, hr, hdest, hel⟩ => ?_, fun hfail hnone => ?_⟩
  · have hany : s.q.out.any (fun r => r.dest = a.dest && r.eligible s.now) = true :=
      List.any_eq_true.2 ⟨r, hr, Bool.and_eq_true_iff.2 ⟨decide_eq_true hdest, hel⟩⟩
    obtain ⟨table, replaced, rejected, h⟩ := State.enterCalling_eq
      (Option.isSome_iff_ne_none.2 ((s.passes_iff _ _).1 hpass).1) hlink a
    exact ⟨_, _, hexec.trans (congrArg _ ((if_pos (Bool.and_eq_true_iff.2 ⟨hpass, hany⟩)).trans h)), rfl, rfl, rfl, rfl,
      rfl, rfl, rfl, rfl, rfl, Nat.le_max_left _ _, Nat.max_le.2 ⟨Nat.le_of_ble_eq_true rfl, Nat.min_le_left _ _⟩, rfl,
      rfl, rfl⟩
  · refine hexec.trans (congrArg _ ((if_neg ?_).trans (State.consider_of_none (s := s.enterIdle) hnone)))
    rw [hfail]
    exact Bool.false_ne_true

end Sys2Proof.Machine
end

section
/-! PROOFS. A close asked for, deferred or granted (O25, O26). -/

namespace Sys2Proof.Machine

namespace State

/-! ### Asking for a close -/

theorem askHourClose_unconfigured {s : State} (h : s.cfg.ownCall = none ∨ s.cfg.portOffice = none) :
    s.askHourClose = s.deferNotice .hour .notConfigured := by
  unfold askHourClose
  obtain h | h := h
  · rw [h]
  · rw [h]
    cases s.cfg.ownCall <;> rfl

/-- An hour close that is asked of the queues: made, or deferred. -/
def hourClose (s : State) (own office : Nat) : State :=
  match s.askReport office with
  | (.ok ref, t) => t.makeClose own ref .hour none
  | (.error cause, t) => t.deferClose .hour cause

/-- CLOSE REPORT where a close is asked of the queues. -/
def requestClose (s : State) (r : Request) (own office : Nat) : State :=
  match s.askReport office with
  | (.ok ref, t) => (t.makeClose own ref .request none).result clsClose r .done
      [.num 2 s.tally.serial, .num 1 ref, .num 2 (reportLength s.tally.rows.length)]
  | (.error cause, t) =>
    (t.deferClose .request cause).result clsClose r .accepted [.num 1 1, .num 1 cause.ctorIdx]

theorem askHourClose_configured {s : State} {own office : Nat} (hown : s.cfg.ownCall = some own)
    (hoffice : s.cfg.portOffice = some office) :
    s.askHourClose = if s.tally.pending.isSome then s else s.hourClose own office := by
  unfold askHourClose
  rw [hown, hoffice]
  rfl

theorem askReport_full {s : State} (h : 16 ≤ s.q.out.length) (dest : Nat) : s.askReport dest = (.error .queue, s) := by
  have hcause (n : Nat) : s.reportRefusal s.tally.serial n = some .queue := if_pos h
  unfold askReport
  dsimp only
  rw [hcause]

theorem askHourClose_joined {s : State} {own office : Nat} (hown : s.cfg.ownCall = some own)
    (hoffice : s.cfg.portOffice = some office) (hp : s.tally.pending ≠ none) : s.askHourClose = s :=
  (askHourClose_configured hown hoffice).trans (if_pos (Option.isSome_iff_ne_none.2 hp))

theorem askHourClose_deferred {s : State} {own office : Nat} (hown : s.cfg.ownCall = some own)
    (hoffice : s.cfg.portOffice = some office) (hp : s.tally.pending = none) (hfull : 16 ≤ s.q.out.length) :
    s.askHourClose = s.deferClose .hour .queue := by
  rw [askHourClose_configured hown hoffice, hp, hourClose, askReport_full hfull]
  rfl

theorem hourDue_eq {s : State} {d : Nat} {rd : Reading} (hd : s.tally.closeDay = some d) (hrd : s.reading = some rd) :
    s.hourDue = if laterDay (latestClose s.cfg.closeHour rd) d then some (latestClose s.cfg.closeHour rd) else none := by
  unfold hourDue closeDayNow
  rw [hd, hrd]
  rfl

/-- The state once D is another day count. -/
def onDay (s : State) (day : Nat) : State := { s with tally := { s.tally with closeDay := some day } }

/-- The hour close at a later day: D takes it, and a close is asked for. -/
theorem exec_closeInstant {s : State} (hlow : s.resetLow = false) {d : Nat} {rd : Reading}
    (hd : s.tally.closeDay = some d) (hrd : s.reading = some rd)
    (hlater : laterDay (latestClose s.cfg.closeHour rd) d = true) : exec .closeInstant s = .next
      (s.onDay (latestClose s.cfg.closeHour rd)).askHourClose := by
  have hdue := (hourDue_eq hd hrd).trans (if_pos hlater)
  refine (State.timed_due hlow (Option.isSome_iff_ne_none.2 (hdue.trans_ne (Option.some_ne_none _))) _ :
    execCloseInstant s = _).trans (congrArg _ ?_)
  unfold evaluateHour
  rw [hdue]
  rfl

theorem reqClose_configured {s : State} {own office : Nat} (hwin : s.port.window = none)
    (hown : s.cfg.ownCall = some own) (hoffice : s.cfg.portOffice = some office) (r : Request) :
    s.reqClose r = if s.tally.pending.isSome then s.result clsClose r .accepted [.num 1 0]
      else s.requestClose r own office := by
  unfold reqClose configClosed
  rw [hwin, hown, hoffice]
  rfl

theorem reqClose_unconfigured {s : State} (hwin : s.port.window = none)
    (h : s.cfg.ownCall = none ∨ s.cfg.portOffice = none) (r : Request) :
    s.reqClose r = s.result clsClose r .notConfigured [] := by
  unfold reqClose configClosed
  rw [hwin]
  obtain h | h := h
  · rw [h]
    rfl
  · rw [h]
    cases s.cfg.ownCall <;> rfl

end State

/-- Settles O25: each source's conditions in their order, up to the full outgoing queue. -/
theorem closeIsAskedForOrDeferred : Obligations.CloseIsAskedForOrDeferred := by
  refine ⟨fun s d rd hlow hd hrd => ⟨fun hno => ?_, fun hge hle => ?_⟩, fun s r ht => ?_⟩
  · have hlater : ¬ laterDay (latestClose s.cfg.closeHour rd) d = true := fun h => by
      obtain ⟨h1, h2⟩ := Bool.and_eq_true_iff.1 h
      obtain h0 | h0 := hno
      · exact Nat.not_succ_le_zero 0 ((of_decide_eq_true h1).trans_eq h0)
      · exact Nat.not_lt.2 (of_decide_eq_true h2) h0
    refine (State.taken_high hlow _ : execCloseInstant s = _).trans (congrArg _ (if_neg ?_))
    rw [(State.hourDue_eq hd hrd).trans (if_neg hlater)]
    exact Bool.false_ne_true
  · have hexec := State.exec_closeInstant hlow hd hrd
      (Bool.and_eq_true_iff.2 ⟨decide_eq_true hge, decide_eq_true hle⟩)
    refine ⟨fun h => hexec.trans (congrArg _ (State.askHourClose_unconfigured (s := s.onDay _) h)), fun hown hoffice hp => ?_,
      fun hown hoffice hp hfull => ?_⟩
    · obtain ⟨own, hown⟩ := Option.ne_none_iff_exists'.1 hown
      obtain ⟨office, hoffice⟩ := Option.ne_none_iff_exists'.1 hoffice
      exact hexec.trans (congrArg _ (State.askHourClose_joined (s := s.onDay _) hown hoffice hp))
    · obtain ⟨own, hown⟩ := Option.ne_none_iff_exists'.1 hown
      obtain ⟨office, hoffice⟩ := Option.ne_none_iff_exists'.1 hoffice
      exact hexec.trans (congrArg _ (State.askHourClose_deferred (s := s.onDay _) hown hoffice hp hfull))
  · have hexec : exec (.closeReport r) s = .next (s.reqClose r) := State.taken_request ht (cls := clsClose) rfl _
    refine ⟨fun hwin => ?_, fun hwin h => hexec.trans (congrArg _ (State.reqClose_unconfigured hwin h r)),
      fun hwin hown hoffice hp => ?_, fun hwin hown hoffice hp hfull => ?_⟩
    · refine hexec.trans (congrArg _ (if_pos ?_))
      unfold State.configClosed
      rw [Option.isNone_eq_false_iff.2 hwin]
      rfl
    all_goals
      obtain ⟨own, hown⟩ := Option.ne_none_iff_exists'.1 hown
      obtain ⟨office, hoffice⟩ := Option.ne_none_iff_exists'.1 hoffice
      have hexec := hexec.trans (congrArg _ (State.reqClose_configured hwin hown hoffice r))
    · exact hexec.trans (congrArg _ (if_pos (Option.isSome_iff_ne_none.2 hp)))
    · rw [if_neg (ne_true_of_eq_false (Option.isSome_eq_false_iff.2 (Option.isNone_iff_eq_none.2 hp))),
        State.requestClose,
        State.askReport_full hfull] at hexec
      exact ⟨_, hexec, rfl, rfl, rfl, s.deferClose .request .queue, rfl, rfl⟩

/-! ### The report's text -/

@[simp] theorem length_digitCodes (w n : Nat) : (digitCodes w n).length = w := by
  unfold digitCodes
  rw [List.length_map, length_digitsOf]

theorem length_closeTime : ∀ tod : Option Nat, (closeTime tod).length = 4
  | none => rfl
  | some _ => by unfold closeTime; rw [List.length_append, length_digitCodes, length_digitCodes]

theorem TallyRow.length_line {r : TallyRow} (h : r.species.length = 3 ∧ r.area.length = 4) : r.line.length = 21 := by
  unfold line
  simp only [List.length_append, length_digitCodes, h]
  rfl

theorem length_totalLine (rows : List TallyRow) : (totalLine rows).length = 15 := by
  unfold totalLine
  simp only [List.length_append, length_digitCodes]
  rfl

theorem length_lines {rows : List TallyRow} (h : ∀ r ∈ rows, r.species.length = 3 ∧ r.area.length = 4) :
    (rows.map TallyRow.line).flatten.length = 21 * rows.length := by
  induction rows with
  | nil => rfl
  | cons r rows ih =>
    rw [List.map_cons, List.flatten_cons, List.length_append, TallyRow.length_line (h r List.mem_cons_self),
      ih fun x hx => h x (List.mem_cons_of_mem _ hx), List.length_cons, Nat.mul_succ, Nat.add_comm]

theorem length_reportText (own serial : Nat) (tod : Option Nat) {rows : List TallyRow}
    (h : ∀ r ∈ rows, r.species.length = 3 ∧ r.area.length = 4) :
    (reportText own serial tod rows).length = reportLength rows.length := by
  cases rows with
  | nil =>
    unfold reportText
    simp only [List.length_append, length_digitCodes, length_closeTime]
    rfl
  | cons r rows =>
    unfold reportText
    simp only [List.length_append, length_digitCodes, length_closeTime, List.isEmpty_cons, Bool.false_eq_true, if_false, length_lines h, length_totalLine, ← Nat.add_assoc]
    rfl

/-- The pages that a length asks for hold it. -/
theorem le_pagesFor (n : Nat) : n ≤ 256 * pagesFor n := by
  refine Nat.le_of_add_le_add_right (b := 255) ?_
  calc n + 255 = 256 * ((n + 255) / 256) + (n + 255) % 256 := (Nat.div_add_mod _ _).symm
    _ ≤ 256 * pagesFor n + 255 := Nat.add_le_add_left (Nat.le_of_lt_succ (Nat.mod_lt _ (Nat.succ_pos 255))) _

namespace State

/-! ### A close granted -/

/-- The report record that a granted close queues. -/
def reportRec (s : State) (office : Nat) : OutRec :=
  { s.newOut office 1 (reportLength s.tally.rows.length) (some s.tally.serial) .intake with
    state := .queued, told := true }

/-- What stands once a close is made: the tally reopened, the report queued, its text written. -/
def Reported (s : State) (own office : Nat) (day : Option Nat) (t : State) : Prop :=
  t.tally = { s.tally with
    watch := s.tally.watch ++ [{ serial := s.tally.serial, ref := s.q.nextOutRef, closedAt := s.now, closed := s.reading,
                                 deadline := s.now + 3600000 * s.cfg.deadline, overdue := false }],
    hauls := [], rows := [], serial := nextPeriod s.tally.serial, opened := s.reading, closes := bump s.tally.closes,
    pending := none, closeDay := day } ∧
  s.reportRec office ∈ t.q.out ∧
  (s.store.chain (.out s.q.nextOutRef) = none →
    (∀ x ∈ s.tally.rows, x.species.length = 3 ∧ x.area.length = 4) →
    t.store.textOf (.out s.q.nextOutRef) = reportText own s.tally.serial s.tod s.tally.rows)

/-- The queues and the text store can grant the report record. -/
def CanReport (s : State) : Prop :=
  s.q.out.length < 16 ∧ (s.q.out.filter fun o => o.cls = 1).length < 4 ∧
  (∀ o ∈ s.q.out, ¬ (o.cls = 1 ∧ o.serial = some s.tally.serial)) ∧
  s.store.grants .outgoing false (pagesFor (reportLength s.tally.rows.length)) = true

theorem reportRefusal_of_canReport {s : State} (h : s.CanReport) :
    s.reportRefusal s.tally.serial (reportLength s.tally.rows.length) = none := by
  obtain ⟨hroom, hreports, hserial, hgrants⟩ := h
  have hnew : ¬ (s.q.out.any fun r => r.cls = 1 && r.serial = some s.tally.serial) = true := fun hany => by
    obtain ⟨o, ho, hsame⟩ := List.any_eq_true.1 hany
    obtain ⟨h1, h2⟩ := Bool.and_eq_true_iff.1 hsame
    exact hserial o ho ⟨of_decide_eq_true h1, of_decide_eq_true h2⟩
  exact (if_neg (Nat.not_le.2 hroom)).trans ((if_neg (Nat.not_le.2 hreports)).trans ((if_neg hnew).trans (if_pos hgrants)))

theorem grants_take {st : TextStore} {n : Nat} (h : st.grants .outgoing false n = true) (key : RecKey) :
    (st.take key .outgoing false n).1 = .granted := by
  have hle : n ≤ st.quotaRoom .outgoing := of_decide_eq_true h
  exact congrArg Prod.fst (if_pos (decide_eq_true (Nat.le_add_right_of_le hle)))

theorem askReport_granted {s : State} (h : s.CanReport) (office : Nat) :
    s.askReport office = (.ok s.q.nextOutRef,
      (s.createOut office 1 (reportLength s.tally.rows.length) (some s.tally.serial) .intake).2) := by
  have hcreate := createOut_granted (s := s) (dest := office) (cls := 1) (serial := some s.tally.serial) (st := .intake)
    (grants_take h.2.2.2 (.out s.q.nextOutRef))
  unfold askReport
  dsimp only
  rw [reportRefusal_of_canReport h, hcreate]

theorem askHourClose_granted {s : State} {own office : Nat} (hown : s.cfg.ownCall = some own)
    (hoffice : s.cfg.portOffice = some office) (hp : s.tally.pending = none) (h : s.CanReport) :
    s.askHourClose = State.makeClose
      (s.createOut office 1 (reportLength s.tally.rows.length) (some s.tally.serial) .intake).2
      own s.q.nextOutRef .hour none := by
  rw [askHourClose_configured hown hoffice, hp, hourClose, askReport_granted h]
  rfl

theorem retryClose_granted {s : State} {own office : Nat} (hown : s.cfg.ownCall = some own)
    (hoffice : s.cfg.portOffice = some office) (h : s.CanReport) (p : PendingClose) :
    s.retryClose p = State.makeClose
      (s.createOut office 1 (reportLength s.tally.rows.length) (some s.tally.serial) .intake).2
      own s.q.nextOutRef p.source (some p) := by
  unfold retryClose
  rw [hown, hoffice]
  dsimp only
  rw [askReport_granted h]

theorem makeClose_queue (s : State) (own ref : Nat) (source : CloseSource) (pending : Option PendingClose) :
    (s.makeClose own ref source pending).q.out =
      s.q.out.map fun r => if r.ref = ref then { r with state := .queued, told := true } else r := by
  obtain ⟨gen, link, h⟩ := (s.onStore fun st => st.write (.out ref)
    (reportText own s.tally.serial s.tod s.tally.rows)).queueRecord_eq ref
  exact congrArg (fun t => t.q.out) h

theorem makeClose_store (s : State) (own ref : Nat) (source : CloseSource) (pending : Option PendingClose) :
    (s.makeClose own ref source pending).store =
      s.store.write (.out ref) (reportText own s.tally.serial s.tod s.tally.rows) := by
  obtain ⟨gen, link, h⟩ := (s.onStore fun st => st.write (.out ref)
    (reportText own s.tally.serial s.tod s.tally.rows)).queueRecord_eq ref
  exact congrArg (fun t => t.store) h

theorem makeClose_tally (s : State) (own ref : Nat) (source : CloseSource) (pending : Option PendingClose) :
    (s.makeClose own ref source pending).tally = { s.tally with
      watch := s.tally.watch ++ [{ serial := s.tally.serial, ref := ref, closedAt := s.now, closed := s.reading,
                                   deadline := s.now + 3600000 * s.cfg.deadline, overdue := false }],
      hauls := [], rows := [], serial := nextPeriod s.tally.serial, opened := s.reading, closes := bump s.tally.closes,
      pending := none } := by
  obtain ⟨gen, link, h⟩ := (s.onStore fun st => st.write (.out ref)
    (reportText own s.tally.serial s.tod s.tally.rows)).queueRecord_eq ref
  exact (congrArg (fun t : State => ({ t.tally with
    watch := t.tally.watch ++ [{ serial := s.tally.serial, ref := ref, closedAt := s.now, closed := s.reading,
                                 deadline := s.now + 3600000 * s.cfg.deadline, overdue := false }],
    hauls := [], rows := [], serial := nextPeriod s.tally.serial, opened := s.reading, closes := bump s.tally.closes,
    pending := none } : CatchTally)) h).trans rfl

end State

/-- A chain newly taken holds what is first written to it, as far as its pages reach. -/
theorem TextStore.textOf_write_take {st : TextStore} {key : RecKey} (hno : st.chain key = none) {n : Nat}
    (h : st.grants .outgoing false n = true) {codes : List Nat} (hlen : codes.length ≤ 256 * n) :
    ((st.take key .outgoing false n).2.write key codes).textOf key = codes := by
  have hle : n ≤ st.quotaRoom .outgoing := of_decide_eq_true h
  have hcharges : (st.charges .outgoing n).length = n := by
    unfold charges
    rw [Nat.min_eq_left hle, Nat.sub_self, List.replicate_zero, List.append_nil, List.length_replicate]
  have hold : (st.chains.map fun c => if c.key = key then
      { c with text := c.text ++ codes.take (256 * c.charges.length - c.text.length) } else c).find?
        (fun c => c.key = key) = none := by
    rw [List.find?_map, Option.map_eq_none_iff]
    refine Eq.trans (congrArg (fun p => st.chains.find? p) (funext fun c => ?_)) hno
    by_cases hk : c.key = key
    · exact (congrArg (fun c' : Chain => decide (c'.key = key)) (if_pos hk)).trans rfl
    · exact (congrArg (fun c' : Chain => decide (c'.key = key)) (if_neg hk)).trans rfl
  have htake : (st.take key .outgoing false n).2 = { st with chains := st.chains ++
      [{ key := key, cls := .outgoing, distress := false, charges := st.charges .outgoing n, text := [] }] } := by
    rw [take_of_no_chain hno, if_pos (Nat.le_add_right_of_le hle)]
  rw [htake, textOf, chain, write, onChain, List.map_append, List.find?_append, hold, Option.none_or, List.map_singleton,
    if_pos rfl, List.find?_singleton, if_pos (decide_eq_true rfl), Option.map_some, Option.getD_some, List.nil_append,
    hcharges]
  exact List.take_of_length_le hlen

namespace State

theorem reported_makeClose {s : State} (h : s.CanReport) (own office : Nat) (source : CloseSource)
    (pending : Option PendingClose) : s.Reported own office s.tally.closeDay (State.makeClose
      (s.createOut office 1 (reportLength s.tally.rows.length) (some s.tally.serial) .intake).2
      own s.q.nextOutRef source pending) := by
  rw [createOut_granted (grants_take h.2.2.2 (.out s.q.nextOutRef))]
  refine ⟨makeClose_tally _ _ _ _ _, ?_, fun hno hrows => ?_⟩
  · rw [makeClose_queue]
    exact List.mem_map.2 ⟨_, (insertBy_perm _ _ _).mem_iff.2 List.mem_cons_self, if_pos rfl⟩
  · rw [makeClose_store]
    refine TextStore.textOf_write_take hno h.2.2.2 ?_
    exact (length_reportText own _ _ hrows).trans_le (le_pagesFor _)

end State

/-- Settles O26: the one granted close, reached by CLOSE REPORT, at the close instant and at a retry. -/
theorem grantedCloseMakesTheWholeReport : Obligations.GrantedCloseMakesTheWholeReport := by
  refine ⟨fun own serial tod rows h => length_reportText own serial tod h, ?_⟩
  intro s own office hlow hown hoffice hroom hreports hserial hgrants ref made
  have hmade {day : Option Nat} {t : State} (h : s.Reported own office day t) : made t day :=
    ⟨h.1, ⟨_, h.2.1, rfl, rfl, rfl, rfl, rfl, rfl, rfl⟩, h.2.2⟩
  have hcan : s.CanReport := ⟨hroom, hreports, hserial, hgrants⟩
  refine ⟨fun r ht hwin hp => ?_, fun d rd hd hrd hp hlater => ?_, fun p hp hle => ?_⟩
  · have hexec : exec (.closeReport r) s = .next (s.reqClose r) := State.taken_request ht (cls := clsClose) rfl _
    rw [State.reqClose_configured hwin hown hoffice, hp, State.requestClose,
      State.askReport_granted hcan] at hexec
    exact ⟨_, hexec, hmade (s.reported_makeClose hcan own office .request none)⟩
  · have hexec := State.exec_closeInstant hlow hd hrd hlater
    rw [State.askHourClose_granted (s := s.onDay _) hown hoffice hp hcan] at hexec
    exact ⟨_, hexec, hmade ((s.onDay _).reported_makeClose hcan own office .hour none)⟩
  · have hdue : s.retryDue = some p := by unfold State.retryDue; rw [hp]; exact if_pos hle
    have hexec : exec .closeRetry s = .next (s.retryClose p) := State.timedOn_some hlow hdue _
    exact ⟨_, hexec.trans (congrArg _ (State.retryClose_granted hown hoffice hcan p)), hmade (s.reported_makeClose hcan own office p.source (some p))⟩

end Sys2Proof.Machine
end

section
/-! PROOFS. The decoder's sync gained and lost, and a transmission started (O10, O11, O14). -/

namespace Sys2Proof.Machine

namespace State

/-! ### The busy judgement -/

/-- A busy judgement settles the indication, and moves no more than clear, its timer and a waiting attempt. -/
theorem judgeBusy_eq (s : State) : ∃ nm link, s.judgeBusy = { s with nm := nm, link := link } ∧
    nm.busy = s.judgedBusy ∧ nm.table = s.nm.table ∧ nm.overheard = s.nm.overheard ∧
    (s.nm.clear = false → nm.clear = false) ∧
    (s.key = true → s.nm.clearStart = none → nm.clearStart = none) := by
  unfold judgeBusy
  dsimp only
  by_cases hsame : s.judgedBusy = s.nm.busy
  · exact ⟨s.nm, s.link, if_pos hsame, hsame.symm, rfl, rfl, id, fun _ h => h⟩
  · rw [if_neg hsame]
    cases s.judgedBusy
    · exact ⟨_, s.link, rfl, rfl, rfl, rfl, id, fun h _ => if_pos h⟩
    · unfold channelNotClear
      by_cases hp : s.link.phase = .backoff
      · exact ⟨_, _, if_pos hp, rfl, rfl, rfl, fun _ => rfl, fun _ _ => rfl⟩
      · exact ⟨_, s.link, if_neg hp, rfl, rfl, rfl, fun _ => rfl, fun _ _ => rfl⟩

theorem judgeBusy_dec (s : State) : s.judgeBusy.dec = s.dec := by
  obtain ⟨_, _, h, -⟩ := s.judgeBusy_eq
  exact (congrArg State.dec h).trans rfl

/-! ### A frame cut short -/

/-- What a frame handed to its owner leaves alone: the decoder but for its stream, the encoder, busy and clear, and the
hold of a burst. -/
def radio (s : State) : Decoder × Encoder × Bool × Bool × Option Nat × Option Nat :=
  ({ s.dec with stream := .empty }, s.enc, s.nm.busy, s.nm.clear, s.nm.clearStart, s.dis.heldSince)

theorem recordCall_radio (s : State) (call : Nat) : (s.recordCall call).2.radio = s.radio := by
  obtain ⟨ok, table, replaced, rejected, h⟩ := s.recordCall_eq call
  rw [h]
  rfl

theorem attribute_radio (s : State) (sender : Option Nat) (sf : Nat) : (s.attribute sender sf).radio = s.radio := by
  cases sender with
  | none => rfl
  | some call =>
    obtain ⟨ok, table, replaced, rejected, h⟩ := s.recordCall_eq call
    unfold State.attribute
    dsimp only
    rw [h]
    cases ok <;> rfl

theorem silenceEvent_radio (s : State) : s.silenceEvent.radio = s.radio := by
  unfold silenceEvent
  obtain ⟨gen, link, h⟩ := (demandBreak { s with dis := { s.dis with lastSilence := some s.now } }
    .silence).restrictAttempt_eq
  dsimp only
  rw [h, demandBreak_eq]
  exact (apply_ite State.radio _ _ _).trans (ite_self _)

theorem ownAlertFrame_radio (s : State) (f : DistressFrame) (serial : Nat) :
    (s.ownAlertFrame f serial).radio = s.radio := by
  unfold ownAlertFrame
  cases f.type with
  | dack =>
    refine (apply_ite State.radio _ _ _).trans ((congrArg (ite _ · _) ?_).trans (ite_self _))
    refine (apply_ite State.radio _ _ _).trans ((congrArg (ite _ _) ?_).trans (ite_self _))
    cases s.dis.own with
    | cancelPending => exact (apply_ite State.radio _ _ _).trans (ite_self _)
    | _ => rfl
  | _ => rfl

theorem markDistress_radio (s : State) (call : Nat) : (s.markDistress call).radio = s.radio := by
  obtain ⟨ok, table, replaced, rejected, h⟩ := s.recordCall_eq call
  unfold markDistress
  rw [h]
  cases ok <;> rfl

theorem putEntry_radio (s : State) (f : DistressFrame) (origin serial : Nat) (cause : AlarmCause) :
    (s.putEntry f origin serial cause).radio = s.radio := s.markDistress_radio origin

theorem suppressRelay_radio (s : State) (origin : Nat) (idleTo : RelayState) :
    (s.suppressRelay origin idleTo).radio = s.radio := by
  unfold suppressRelay
  dsimp only
  split
  · exact (apply_ite State.radio _ _ _).trans (ite_self _)
  · rfl

theorem alertHeard_radio (s : State) (f : DistressFrame) (origin serial : Nat) :
    (s.alertHeard f origin serial).radio = s.radio := by
  unfold alertHeard
  split
  · split
    · exact (apply_ite State.radio _ _ _).trans ((congrArg (fun x => ite _ x _)
        (suppressRelay_radio _ _ _)).trans (ite_self _))
    · exact putEntry_radio _ _ _ _ _
  · split
    · exact putEntry_radio _ _ _ _ _
    · split
      · exact putEntry_radio _ _ _ _ _
      · rfl

theorem ackHeard_radio (s : State) (f : DistressFrame) (origin serial : Nat) :
    (s.ackHeard f origin serial).radio = s.radio := by
  unfold ackHeard
  split
  · dsimp only
    split
    · split
      · exact suppressRelay_radio _ _ _
      · split
        · exact suppressRelay_radio _ _ _
        · rfl
    · rfl
  · rfl

theorem distressFrame_radio (s : State) (f : DistressFrame) : (s.distressFrame f).radio = s.radio := by
  refine Eq.trans ?_ s.silenceEvent_radio
  unfold distressFrame
  dsimp only
  cases f.origin with
  | none => rfl
  | some origin =>
    cases f.serial with
    | none => rfl
    | some serial =>
      dsimp only
      split
      · exact ownAlertFrame_radio _ _ _
      · have heard : State.radio (if origin < 10000 then s.silenceEvent.unusableFrame
            else s.silenceEvent.alertHeard f origin serial) = s.silenceEvent.radio := by
          split
          · rfl
          · exact alertHeard_radio _ _ _ _
        cases f.type with
        | alert => exact heard
        | relay => exact heard
        | dack => exact ackHeard_radio _ _ _ _
        | dcancel => exact ackHeard_radio _ _ _ _

theorem endDecision_radio (s : State) (r : BulRec) : (s.endDecision r).radio = s.radio := by
  unfold endDecision
  dsimp only
  (repeat' split) <;> rfl

theorem closeBul_radio (s : State) (ending : Ending) (pf : Nat) : (s.closeBul ending pf).radio = s.radio := by
  have htruncate (r : BulRec) : (s.truncateBul r).radio = s.radio :=
    (apply_ite State.radio _ _ _).trans (ite_self _)
  have hupdate (t : State) (r : BulRec) : (t.heardUpdate r).radio = t.radio := by
    unfold heardUpdate
    split
    · split <;> rfl
    · rfl
  unfold closeBul
  split
  · refine (hupdate _ _).trans ((endDecision_radio _ _).trans ?_)
    refine (apply_ite State.radio _ _ _).trans ?_
    rw [htruncate, ite_self]
  · rfl

theorem cutFrame_radio (s : State) (cause : CutCause) : (s.cutFrame cause).radio = s.radio := by
  unfold cutFrame
  split
  · rfl
  · next n sum header _ =>
    refine Eq.trans ?_ (s.attribute_radio (s.bulSender header) (frameSample n sum))
    unfold bulCut
    split <;> exact closeBul_radio _ _ _
  · exact (distressFrame_radio _ _).trans (s.attribute_radio _ _)

/-! ### Sync lost -/

theorem loseSync_dec (s : State) (cause : CutCause) : (s.loseSync cause).dec =
    { s.dec with sync := .hunting, window := [], stream := .empty, losses := bump s.dec.losses } :=
  (judgeBusy_dec _).trans (congrArg (fun x : _ × _ => { x.1 with
    sync := .hunting, window := [], stream := .empty, losses := bump x.1.losses }) (s.cutFrame_radio cause))

/-- The transmitter's side of a loss of sync: with KEY asserted the channel is not clear after it either. -/
theorem loseSync_keyed {s : State} (cause : CutCause) (hkey : s.key = true) (hclear : s.nm.clear = false)
    (hstart : s.nm.clearStart = none) : (s.loseSync cause).enc = s.enc ∧ (s.loseSync cause).nm.clear = false ∧
      (s.loseSync cause).nm.clearStart = none ∧ (s.loseSync cause).dis.heldSince = s.dis.heldSince := by
  have hcut := s.cutFrame_radio cause
  have henc : (s.cutFrame cause).enc = s.enc := congrArg (fun x => x.2.1) hcut
  obtain ⟨nm, link, h, -, -, -, hc, hs⟩ := ((s.cutFrame cause).onDec fun d =>
    { d with sync := .hunting, window := [], stream := .empty, losses := bump d.losses }).judgeBusy_eq
  rw [show s.loseSync cause = _ from h]
  exact ⟨henc, hc ((congrArg (fun x => x.2.2.2.1) hcut).trans hclear),
    hs ((congrArg (fun e : Encoder => e.inFlight.isSome) henc).trans hkey)
      ((congrArg (fun x => x.2.2.2.2.1) hcut).trans hstart), congrArg (fun x => x.2.2.2.2.2) hcut⟩

theorem keyAsserted_eq (s : State) : ∃ link, s.keyAsserted =
    if s.dec.sync = .spreadSync
      then loseSync { s with nm := { s.nm with clear := false, clearStart := none }, link := link } .ownKeying
      else { s with nm := { s.nm with clear := false, clearStart := none }, link := link } := by
  unfold keyAsserted channelNotClear
  by_cases h : s.link.phase = .backoff
  · exact ⟨{ s.link with phase := .clearing }, by rw [if_pos h]⟩
  · exact ⟨s.link, by rw [if_neg h]⟩

/-- KEY asserted: the channel is not clear, and no stream is read. -/
theorem keyAsserted_spec {s : State} (hkey : s.key = true) : s.keyAsserted.enc = s.enc ∧
    s.keyAsserted.nm.clear = false ∧ s.keyAsserted.nm.clearStart = none ∧ s.keyAsserted.dec.sync ≠ .spreadSync ∧
    s.keyAsserted.dis.heldSince = s.dis.heldSince := by
  obtain ⟨link, h⟩ := s.keyAsserted_eq
  rw [h]
  split
  · obtain ⟨henc, hclear, hstart, hheld⟩ := loseSync_keyed (s := { s with
      nm := { s.nm with clear := false, clearStart := none }, link := link }) .ownKeying hkey rfl rfl
    exact ⟨henc, hclear, hstart, congrArg Decoder.sync (loseSync_dec _ _) ▸ SyncState.noConfusion, hheld⟩
  · next hsync => exact ⟨rfl, rfl, rfl, hsync, rfl⟩

end State

theorem State.strobeLost_of_hunting {s : State} (h : s.dec.sync = .hunting) :
    s.strobeLost = s.onDec fun d => { d with gapSeen := true, window := [], slotSyms := [] } := by
  unfold State.strobeLost
  dsimp only
  split
  · next hsync => exact nomatch h.symm.trans hsync
  · next hsync => exact nomatch h.symm.trans hsync
  · rfl

theorem State.strobeLost_dec (s : State) : s.strobeLost.dec = { s.dec with
    gapSeen := true, window := [], slotSyms := [], sync := .hunting
    align := if s.dec.sync = .linked then none else s.dec.align
    losses := if s.dec.sync = .spreadSync then bump s.dec.losses else s.dec.losses
    stream := if s.dec.sync = .spreadSync then .empty else s.dec.stream } := by
  unfold State.strobeLost
  dsimp only
  split
  · next hsync =>
    replace hsync : s.dec.sync = .spreadSync := hsync
    rw [State.loseSync_dec, hsync]
    rfl
  · next hsync =>
    replace hsync : s.dec.sync = .linked := hsync
    rw [State.judgeBusy_dec, hsync]
    rfl
  · next hsync =>
    replace hsync : s.dec.sync = .hunting := hsync
    rw [hsync]
    exact congrArg (fun x => { s.dec with gapSeen := true, window := [], slotSyms := [], sync := x }) hsync

/-- Settles O11: a gap empties the window and leaves sync as the decoder's state has it. -/
theorem strobeGapAndTimeoutEndSync : Obligations.StrobeGapAndTimeoutEndSync := by
  refine ⟨fun s hlow hfree hseen hgap => ?_, fun s last hlow hlast hle => ?_⟩
  · have hdue : s.gapDue = true := by
      unfold State.gapDue State.key
      rw [hfree, hseen]
      exact decide_eq_true hgap
    have hexec : exec .strobeGap s = .next s.strobeLost := State.timed_due hlow hdue _
    refine ⟨fun hsync => hexec.trans (congrArg _ ?_), _, hexec, ?_⟩
    · exact State.strobeLost_of_hunting hsync
    · have hdec := s.strobeLost_dec
      exact ⟨congrArg Decoder.window hdec, congrArg Decoder.sync hdec,
        fun h => (congrArg Decoder.losses hdec).trans (if_neg h),
        fun h => ⟨(congrArg Decoder.losses hdec).trans (if_pos h), (congrArg Decoder.stream hdec).trans (if_pos h)⟩⟩
  · have hdue : s.linkedDue = true := by
      unfold State.linkedDue
      rw [hlast]
      exact decide_eq_true hle
    have hexec : exec .linkedTimeout s = .next s.linkedOver := State.timed_due hlow hdue _
    obtain ⟨nm, link, h, hbusy, htable, -⟩ := State.judgeBusy_eq (s.onDec fun d =>
      { d with lastBlock := none,
               sync := if d.sync = .linked then .hunting else d.sync,
               align := if d.sync = .linked then none else d.align })
    exact ⟨_, hexec.trans (congrArg _ h), rfl, hbusy, htable, rfl, rfl, rfl⟩

/-- Settles O14: a waiting frame is launched, BURST before FRAME. -/
theorem waitingFrameStartsBurstFirst : Obligations.WaitingFrameStartsBurstFirst := by
  intro s hlow hfree htxinh
  have htx : s.txFree = true := by unfold State.txFree; rw [hfree, htxinh]; rfl
  refine ⟨fun r hb => ?_, fun r hb hf hbusy => ?_, fun r hb hf hbusy => ?_⟩
  · have hexec : exec .startTransmission s = .next s.serveFrames :=
      State.timed_due hlow (by unfold State.frameStarts; rw [htx, hb]; rfl) _
    unfold State.serveFrames at hexec
    rw [if_pos htx, hb] at hexec
    obtain ⟨henc, hclear, hstart, hsync, hheld⟩ := State.keyAsserted_spec (s := { s with
      enc := { s.enc with burst := none, inFlight := some { item := .frame r, slots := r.slots, start := s.now } }
      dis := { s.dis with heldSince := none, holdDone := false } }) rfl
    exact ⟨_, hexec, congrArg (fun e : Encoder => e.inFlight.isSome) henc, henc, hclear, hstart, hsync, hheld⟩
  · have hexec : exec .startTransmission s = .next s.serveFrames :=
      State.timed_due hlow (by unfold State.frameStarts; rw [htx, hb, hf, hbusy]; rfl) _
    unfold State.serveFrames at hexec
    rw [if_pos htx, hb, hf] at hexec
    obtain ⟨henc, hclear, hstart, hsync, -⟩ := State.keyAsserted_spec (s := { s with
      enc := { s.enc with frame := none, inFlight := some { item := .frame r, slots := r.slots, start := s.now } } }) rfl
    exact ⟨_, hexec.trans (congrArg _ (if_neg (ne_true_of_eq_false hbusy))),
      congrArg (fun e : Encoder => e.inFlight.isSome) henc, henc, hclear, hstart, hsync⟩
  · refine (State.taken_high hlow _ : execStartTransmission s = _).trans (congrArg _ (if_neg ?_))
    unfold State.frameStarts
    rw [htx, hb, hf, hbusy]
    exact Bool.false_ne_true

/-! ### A symbol taken, and sync gained -/

namespace State

/-- The state with a symbol taken into the window, not yet looked at. -/
def symbolIn (s : State) (y : Sym) : State :=
  { s with
    gen := { s.gen with state := Config.generatorStep s.gen.state y.conf }
    dec := { s.dec with
      window := lastWindow (s.dec.window ++ [y])
      slotSyms := if s.link.phase.running then s.dec.slotSyms ++ [y] else s.dec.slotSyms
      strobeRef := s.now, gapSeen := false } }

theorem takeSymbol_spread {s : State} (h : s.dec.sync = .spreadSync) (y : Sym) :
    s.takeSymbol y = (s.symbolIn y).streamSymbol y := by
  unfold takeSymbol
  dsimp only
  split
  · rfl
  · next hsync => exact absurd h hsync

theorem takeSymbol_unsynced {s : State} (h : s.dec.sync ≠ .spreadSync) (y : Sym) :
    s.takeSymbol y = (s.symbolIn y).testWindow := by
  unfold takeSymbol
  dsimp only
  split
  · next hsync => exact absurd hsync h
  · rfl

theorem exec_rxsStrobe {s : State} (hlow : s.resetLow = false) (hfree : s.enc.inFlight = none) (bit : Bool)
    (conf : BitVec 3) : exec (.rxsStrobe bit conf) s =
      .next (s.takeSymbol { bit := bit, conf := conf, time := s.now }) := by
  refine (State.taken_high hlow _ : execRxsStrobe bit conf s = _).trans (congrArg _ (if_neg ?_))
  unfold key
  rw [hfree]
  exact Bool.false_ne_true

end State

/-- Four phasing pairs in the window's last 72 symbols. -/
theorem phasingWindow_of_pairs {w : List Sym}
    (h : w.map (·.bit) = (List.replicate 4 (codeword 96 ++ codeword 97)).flatten) : phasingWindow w = true := by
  obtain ⟨hindex, hlen⟩ := readCopies_codewords (chars := [96, 97, 96, 97, 96, 97, 96, 97]) (syms := w)
    (by decide) (h.trans rfl)
  unfold phasingWindow
  rw [hlen, show (readCopies 8 w).map (·.index) = _ from hindex]
  rfl

/-- Settles O10: the strobe completes the window, whose pairs gain sync. -/
theorem fourPhasingPairsGainSync : Obligations.FourPhasingPairsGainSync := by
  intro bit conf s hlow hfree hsync hlen hbits
  have hwin : phasingWindow (lastWindow (s.dec.window ++ [{ bit := bit, conf := conf, time := s.now }])) = true := by
    refine phasingWindow_of_pairs (Eq.trans ?_ hbits)
    unfold lastWindow
    rw [List.length_append, List.length_singleton, Nat.add_sub_add_right _ 1 71, List.drop_append_of_le_length (Nat.sub_le _ _), List.map_append]
    rfl
  have hexec := (State.exec_rxsStrobe hlow hfree bit conf).trans
    (congrArg _ ((State.takeSymbol_unsynced hsync _).trans (if_pos hwin)))
  obtain ⟨nm, link, h, -, -, hover, -⟩ := State.judgeBusy_eq { s.symbolIn ⟨bit, conf, s.now⟩ with
    dec := { (s.symbolIn ⟨bit, conf, s.now⟩).dec with
      sync := .spreadSync, stream := .empty, align := none, acc := some startQ, synced := bump s.dec.synced
      slotBlocked := s.dec.slotBlocked || s.link.phase.running }
    nm := { s.nm with overheard := none } }
  exact ⟨_, hexec.trans (congrArg _ h), rfl, rfl, rfl, rfl, rfl, hover⟩

end Sys2Proof.Machine
end

section
/-! PROOFS. The end of a session, the encoder's reports, and what a transmission served, completed or a cycle boundary
comes to (O15, O16, O20). -/

namespace Sys2Proof.Machine

namespace State

/-! ### What the end of a session leaves alone -/

/-- `t` is `s` but for the FRAME position, the frame queue and the distress list. -/
def FrameOnly (s t : State) : Prop := t = { s with
  enc := { s.enc with frame := t.enc.frame }, dis := { s.dis with queue := t.dis.queue, list := t.dis.list } }

theorem FrameOnly.trans {s t u : State} (h : FrameOnly s t) (k : FrameOnly t u) : FrameOnly s u :=
  Eq.trans k (congrArg (fun x : State => { x with
    enc := { x.enc with frame := u.enc.frame }, dis := { x.dis with queue := u.dis.queue, list := u.dis.list } }) h)

theorem tryPlaceFrame_frameOnly (s : State) : FrameOnly s s.tryPlaceFrame := by
  have hplace (t : State) (r : FrameReq) (hr : r.kind = .dcancel ∨ r.kind = .relay) : FrameOnly t (t.placeFrame r) := by
    have hput : t.enc.putAt r = { t.enc with frame := some r } := by
      obtain h | h := hr <;> (unfold Encoder.putAt; rw [h])
    unfold placeFrame
    rw [hput]
    split
    · split <;> rfl
    · rfl
  unfold tryPlaceFrame
  split
  · rfl
  · cases s.dis.queue with
    | nil => rfl
    | cons x rest =>
      cases s.cfg.ownCall with
      | none => rfl
      | some own =>
        have hqueue : FrameOnly s { s with dis := { s.dis with queue := rest } } := rfl
        cases x with
        | dcancel => exact hqueue.trans (hplace _ _ (.inl rfl))
        | relay origin =>
          dsimp only
          split
          · exact (hqueue.trans (hplace _ _ (.inr rfl))).trans rfl
          · exact hqueue

/-- `t` is `s` but for the queues, the text store and the port. -/
def QueuesOnly (s t : State) : Prop := t = { s with q := t.q, store := t.store, port := t.port }

theorem QueuesOnly.trans {s t u : State} (h : QueuesOnly s t) (k : QueuesOnly t u) : QueuesOnly s u :=
  Eq.trans k (congrArg (fun x : State => { x with q := u.q, store := u.store, port := u.port }) h)

theorem chargeFailure_queuesOnly (s : State) (ref : Nat) : QueuesOnly s (s.chargeFailure ref) := by
  unfold chargeFailure
  split
  · dsimp only
    (repeat' split) <;> rfl
  · rfl

theorem endReport_queuesOnly (s : State) (peer : Nat) (code : EndCode) (failed : Bool) :
    QueuesOnly s (s.endReport peer code failed) := by
  have hcharge (l : List OutRec) (t : State) : QueuesOnly t (l.foldl (fun t r => t.chargeFailure r.ref) t) := by
    induction l generalizing t with
    | nil => rfl
    | cons r l ih => exact (t.chargeFailure_queuesOnly r.ref).trans (ih _)
  unfold endReport
  split
  · exact QueuesOnly.trans (s := s) (t := { s with q := _ }) rfl (hcharge _ _)
  · split <;> rfl

/-- Nothing runs: no session, and no phase of one. -/
def Rests (link : LinkController) : Prop :=
  link.session = none ∧ link.pendingBreak = none ∧ link.phase.running = false

theorem consider_rests {s : State} (h : Rests s.link) : Rests s.consider.link := by
  obtain ⟨hs, hb, hr⟩ := h
  unfold consider
  split
  · split
    · dsimp only
      split <;> exact ⟨hs, hb, rfl⟩
    · exact ⟨hs, hb, hr⟩
  · exact ⟨hs, hb, hr⟩

/-- What a session of `x` leaves when it ends: `t`, with what the end report left as `a`. -/
structure Ended (a : State) (x : Session) (code : EndCode) (reason : Option BreakReason) (unsent : Bool) (t : State) :
    Prop where
  rests : Rests t.link
  dec : t.dec = a.dec
  nm : t.nm = a.releasePeer.nm
  enc : t.enc = { a.enc with link := none, frame := t.enc.frame }
  q : t.q = a.q
  store : t.store = a.store
  port : t.port = (a.sessionEndNotice x code reason unsent).port

theorem endSession_ended {s : State} {x : Session} (hx : s.link.session = some x) (code : EndCode)
    (reason : Option BreakReason) (unsent : Bool) : Ended (s.endReport x.peer code (x.failedAttempt code)) x code reason
      unsent (s.endSession code reason unsent) := by
  have hplaced (c : State) (h : Ended (s.endReport x.peer code (x.failedAttempt code)) x code reason unsent c) :
      Ended (s.endReport x.peer code (x.failedAttempt code)) x code reason unsent c.tryPlaceFrame := by
    rw [show c.tryPlaceFrame = _ from tryPlaceFrame_frameOnly c]
    exact ⟨h.rests, h.dec, h.nm, congrArg (fun e => { e with frame := c.tryPlaceFrame.enc.frame }) h.enc, h.q, h.store,
      h.port⟩
  have hconsidered (d : State) (h : Ended (s.endReport x.peer code (x.failedAttempt code)) x code reason unsent d) :
      Ended (s.endReport x.peer code (x.failedAttempt code)) x code reason unsent d.consider := by
    have hrests := consider_rests h.rests
    obtain ⟨gen, link, hd⟩ := d.consider_eq
    rw [hd] at hrests ⊢
    exact ⟨hrests, h.dec, h.nm, h.enc, h.q, h.store, h.port⟩
  unfold endSession
  rw [hx]
  dsimp only
  split
  · exact hplaced _ ⟨⟨rfl, rfl, rfl⟩, rfl, rfl, rfl, rfl, rfl, rfl⟩
  · exact hconsidered _ (hplaced _ ⟨⟨rfl, rfl, rfl⟩, rfl, rfl, rfl, rfl, rfl, rfl⟩)

/-! ### The encoder's reports -/

/-- The state with a silence event now, of which nobody has been told. -/
def hushed (s : State) : State := { s with dis := { s.dis with lastSilence := some s.now } }

theorem silenceEvent_eq (s : State) : ∃ gen link, s.silenceEvent = s.hushed.withLink gen link := by
  change ∃ gen link, (if s.silence then s.hushed else (s.hushed.demandBreak .silence).restrictAttempt) = _
  split
  · exact ⟨s.gen, s.link, rfl⟩
  · obtain ⟨gen, link, h⟩ := (s.hushed.demandBreak .silence).restrictAttempt_eq
    exact ⟨gen, link, h.trans ((congrArg (fun t => t.withLink gen link) (demandBreak_eq _ _)).trans rfl)⟩

/-- Silence coming into force breaks no session of class 3. -/
theorem silenceEvent_of_classThree {s : State} {x : Session} (hx : s.link.session = some x) (h3 : x.cls = 3)
    (hrun : s.link.phase.running = true) : s.silenceEvent = s.hushed := by
  have hlower : s.hushed.lowerSession = false := by
    have hclass : s.hushed.sessionClass = some 3 := (if_pos hrun).trans (hx ▸ congrArg some h3)
    unfold lowerSession
    rw [hclass]
    rfl
  have hbreak : s.hushed.demandBreak .silence = s.hushed := by
    unfold demandBreak
    rw [hlower]
    rfl
  change (if s.silence then s.hushed else (s.hushed.demandBreak .silence).restrictAttempt) = _
  rw [hbreak, restrictAttempt_of_running (s := s.hushed) hrun, ite_self]

/-- A cycle's sample moves the two accumulators. -/
theorem feedCycle_eq (s : State) (x : Session) : ∃ acc table, s.feedCycle x =
    { s with dec := { s.dec with acc := acc }, nm := { s.nm with table := table } } := by
  unfold feedCycle
  by_cases h : (x.sampled && s.link.phase.inSession) = true
  · exact ⟨_, _, if_pos h⟩
  · exact ⟨_, _, if_neg h⟩

/-- What a report on a request leaves alone: what is in flight, the window and its gap, and the clear-interval timer. -/
def onKey (s : State) : Option Transmission × List Sym × Nat × Option Nat :=
  (s.enc.inFlight, s.dec.window, s.dec.strobeRef, s.nm.clearStart)

theorem endSession_onKey (s : State) (code : EndCode) (reason : Option BreakReason) (unsent : Bool) :
    (s.endSession code reason unsent).onKey = s.onKey := by
  cases hx : s.link.session with
  | none => unfold endSession
            rw [hx]
  | some x =>
    obtain ⟨-, hdec, hnm, henc, -⟩ := endSession_ended hx code reason unsent
    have ha : (s.endReport x.peer code (x.failedAttempt code)).onKey = s.onKey :=
      (congrArg onKey (show _ = _ from endReport_queuesOnly s x.peer code (x.failedAttempt code))).trans rfl
    refine Eq.trans ?_ ha
    unfold onKey
    rw [hdec, hnm, henc]
    rfl

theorem endInCycle_onKey (s : State) (code : EndCode) (reason : Option BreakReason) (unsent : Bool) :
    (s.endInCycle code reason unsent).onKey = s.onKey := by
  unfold endInCycle
  split
  · next x _ =>
    obtain ⟨acc, table, h⟩ := s.feedCycle_eq x
    rw [endSession_onKey, h]
    rfl
  · rfl

theorem linkReport_onKey (s : State) (r : LinkReq) (report : TxReport) :
    (s.linkReport r report).onKey = s.onKey := by
  unfold linkReport
  split
  · next x _ =>
    dsimp only
    have ht : (if (decide (report = .sent) && decide (x.cls = 3) && decide (r.kind ≠ .reply)) = true
        then s.silenceEvent else s).onKey = s.onKey := by
      split
      · obtain ⟨gen, link, h⟩ := s.silenceEvent_eq
        rw [h]
        rfl
      · rfl
    refine Eq.trans ?_ ht
    split
    · split
      · exact endInCycle_onKey _ _ _ _
      · exact endSession_onKey _ _ _ _
    · split
      · split <;> rfl
      · rfl
  · rfl

/-- A report other than sent, on a request that closes no session. -/
theorem linkReport_unsent {s : State} {x : Session} (hx : s.link.session = some x) {r : LinkReq}
    (hc : r.closing = false) {report : TxReport} (hr : report ≠ .sent) :
    s.linkReport r report = if r.kind = .block then s.failCycle else s := by
  unfold linkReport
  rw [hx, hc]
  cases report with
  | sent => exact absurd rfl hr
  | _ => rfl

/-- The report sent on a request that closes no session, with the silence event of class 3 first. -/
theorem linkReport_sent {s : State} {x : Session} (hx : s.link.session = some x) {r : LinkReq}
    (hc : r.closing = false) (hrun : x.cls = 3 → s.link.phase.running = true) :
    s.linkReport r .sent =
      let t := if x.cls = 3 ∧ r.kind ≠ .reply then s.hushed else s
      if r.kind = .block then t.blockReported else t := by
  unfold linkReport
  rw [hx, hc]
  dsimp only
  by_cases h3 : x.cls = 3
  · rw [silenceEvent_of_classThree hx h3 (hrun h3), h3]
    cases r.kind <;> rfl
  · have hno : ¬ (x.cls = 3 ∧ r.kind ≠ .reply) := fun h => h3 h.1
    rw [if_neg hno, decide_eq_false h3]
    cases r.kind <;> rfl

/-- An end of the session leaves the link controller at rest, with no request of it waiting. -/
theorem endSession_rests {s : State} {x : Session} (hx : s.link.session = some x) (code : EndCode)
    (reason : Option BreakReason) (unsent : Bool) :
    Rests (s.endSession code reason unsent).link ∧ (s.endSession code reason unsent).enc.link = none :=
  have h := endSession_ended hx code reason unsent
  ⟨h.rests, congrArg Encoder.link h.enc⟩

theorem endInCycle_rests {s : State} {x : Session} (hx : s.link.session = some x) (code : EndCode)
    (reason : Option BreakReason) (unsent : Bool) :
    Rests (s.endInCycle code reason unsent).link ∧ (s.endInCycle code reason unsent).enc.link = none := by
  obtain ⟨acc, table, h⟩ := s.feedCycle_eq x
  unfold endInCycle
  rw [hx]
  exact endSession_rests ((congrArg (fun t : State => t.link.session) h).trans hx) code reason unsent

/-- A closing request that is not sent ends its session. -/
theorem linkReport_closing {s : State} {x : Session} (hx : s.link.session = some x) {r : LinkReq}
    (hc : r.closing = true) {report : TxReport} (hr : report ≠ .sent) :
    Rests (s.linkReport r report).link ∧ (s.linkReport r report).enc.link = none := by
  unfold linkReport
  rw [hx, hc]
  cases report with
  | sent => exact absurd rfl hr
  | _ =>
    cases r.kind with
    | reply => exact endInCycle_rests hx .brokenLocal _ true
    | _ => exact endSession_rests hx .brokenLocal _ true

/-- The state with no LINK request waiting. -/
def unlinked (s : State) : State := { s with enc := { s.enc with link := none } }

theorem txFree_eq {s : State} (h : s.enc.inFlight = none) : s.txFree = !s.lines.txinh.asserted := by
  unfold txFree
  rw [h]
  rfl

theorem serveLink_alone {s : State} (hb : s.enc.burst = none) (hf : s.enc.frame = none) (r : LinkReq) :
    s.serveLink r = if s.unlinked.withholds r then s.unlinked.linkReport r .withheld
      else if s.unlinked.txFree then s.unlinked.startLink r else s.unlinked.linkReport r .notSent := by
  have hserve : s.serveFrames = s := by
    unfold serveFrames
    rw [hb, hf]
    exact ite_self s
  unfold serveLink
  rw [hserve]
  rfl

end State

/-- Settles O15: the request is withheld, started or dropped by the transmitter's state alone. -/
theorem linkRequestIsServedWithheldOrDropped : Obligations.LinkRequestIsServedWithheldOrDropped := by
  intro s r x hlow hr hstart hfree hburst hframe hx failed dropped
  have hexec : exec .linkSlotStart s = .next (s.serveLink r) := by
    have hdue : s.linkSlotDue = true := by unfold State.linkSlotDue; rw [hr]; exact decide_eq_true hstart
    exact State.timedOn_some hlow ((if_pos hdue).trans hr) _
  rw [State.serveLink_alone hburst hframe] at hexec
  have hdrop (htx : s.lines.txinh.asserted = true) : ∃ report, report ≠ .sent ∧ exec .linkSlotStart s =
      .next (s.unlinked.linkReport r report) := by
    have hno : ¬ s.unlinked.txFree = true := by
      rw [State.txFree_eq (s := s.unlinked) hfree, show s.unlinked.lines.txinh.asserted = true from htx]
      exact Bool.false_ne_true
    by_cases hw : s.unlinked.withholds r = true
    · exact ⟨_, TxReport.noConfusion, hexec.trans (congrArg _ (if_pos hw))⟩
    · exact ⟨_, TxReport.noConfusion, hexec.trans (congrArg _ ((if_neg hw).trans (if_neg hno)))⟩
  refine ⟨fun htx hpass => ?_, fun hc => ⟨fun hsil h3 => ?_, fun htx => ?_⟩, fun hc htx => ?_⟩
  · have hno : s.unlinked.withholds r = false := by
      unfold State.withholds
      obtain h | h | h := hpass
      · rw [show s.unlinked.silence = false from h]
        rfl
      · rw [h, decide_eq_false (not_not_intro rfl), Bool.and_false]
        rfl
      · rw [h, Bool.not_true, Bool.and_false]
    have htx : s.unlinked.txFree = true := by
      rw [State.txFree_eq (s := s.unlinked) hfree, show s.unlinked.lines.txinh.asserted = false from htx]
      rfl
    obtain ⟨henc, -⟩ := State.keyAsserted_spec (s := { s with
      enc := { s.enc with link := none, inFlight := some { item := .link r, slots := r.slots, start := s.now } } }) rfl
    exact ⟨_, hexec.trans (congrArg _ ((if_neg (ne_true_of_eq_false hno)).trans (if_pos htx))),
      congrArg (fun e : Encoder => e.inFlight.isSome) henc, henc⟩
  · have hyes : s.unlinked.withholds r = true := by
      unfold State.withholds
      rw [show s.unlinked.silence = true from hsil, hc, decide_eq_true h3]
      rfl
    exact hexec.trans (congrArg _ ((if_pos hyes).trans
      (State.linkReport_unsent (s := s.unlinked) hx hc TxReport.noConfusion)))
  · obtain ⟨report, hr, h⟩ := hdrop htx
    exact h.trans (congrArg _
      (State.linkReport_unsent (s := s.unlinked) hx hc hr))
  · obtain ⟨report, hr, h⟩ := hdrop htx
    obtain ⟨⟨hs, -, hrun⟩, hl⟩ := State.linkReport_closing (s := s.unlinked) hx hc hr
    exact ⟨_, h, hs, hrun, hl⟩

/-! ### A transmission completed -/

namespace State

/-- KEY released at the end of a transmission. -/
def released (s : State) : State := keyReleased { s with enc := { s.enc with inFlight := none } }

theorem key_of_onKey {s : State} {window : List Sym} {ref : Nat} {start : Option Nat}
    (h : s.onKey = (none, window, ref, start)) :
    s.key = false ∧ s.txd = false ∧ s.dec.window = window ∧ s.dec.strobeRef = ref ∧ s.nm.clearStart = start := by
  obtain ⟨hf, hw, hr, hc⟩ : _ ∧ _ ∧ _ ∧ _ := by simpa only [onKey, Prod.mk.injEq] using h
  exact ⟨by unfold key; rw [hf]; rfl, by unfold txd; rw [hf], hw, hr, hc⟩

theorem bursting_iff (d : Distress) :
    d.bursting = true ↔ d.own = .alerting ∨ (d.own = .cancelPending ∧ d.prevAck = false) := by
  unfold Distress.bursting
  simp only [Bool.or_eq_true, Bool.and_eq_true, decide_eq_true_eq, Bool.not_eq_true']

theorem blockReported_eq {s : State} {y : Session} (hy : s.link.session = some y) :
    s.blockReported = { s with link := { s.link with
      session := some { y with
        blockSent := true, firstRole := if y.firstRole = none then some .sender else y.firstRole }
      counts := { s.link.counts with
        closes := if s.link.phase = .ending then min 4 (s.link.counts.closes + 1) else s.link.counts.closes } } } := by
  have hsent : y.onSent = { y with
      blockSent := true, firstRole := if y.firstRole = none then some .sender else y.firstRole } := by
    unfold Session.onSent
    cases y.firstRole <;> rfl
  rw [← hsent]
  unfold blockReported onSession
  rw [hy]
  rfl

theorem silenceEvent_dis (s : State) : s.silenceEvent.dis = { s.dis with lastSilence := some s.now } := by
  obtain ⟨gen, link, h⟩ := s.silenceEvent_eq
  exact (congrArg State.dis h).trans rfl

theorem silenceEvent_onKey (s : State) : s.silenceEvent.onKey = s.onKey := by
  obtain ⟨gen, link, h⟩ := s.silenceEvent_eq
  exact (congrArg onKey h).trans rfl

theorem tryPlaceFrame_onKey (s : State) : s.tryPlaceFrame.onKey = s.onKey :=
  (congrArg onKey (show _ = _ from tryPlaceFrame_frameOnly s)).trans rfl

theorem tryPlaceFrame_dis (s : State) : ∃ queue list,
    s.tryPlaceFrame.dis = { s.dis with queue := queue, list := list } :=
  ⟨_, _, (congrArg dis (show _ = _ from tryPlaceFrame_frameOnly s)).trans rfl⟩

/-- What a completed DCANCEL leaves of own distress that was CANCELLING: the third ends it, one before it starts the
gap. -/
def dcancelled (d : Distress) (now : Nat) : Distress :=
  if holdAt 3 d.cancelCount = 3
    then { d with lastSilence := some now, cancelCount := holdAt 3 d.cancelCount, own := .none, serial := none
                  nature := none, alertTime := none, cancelAt := none, burstAt := none, gapAt := none }
    else { d with lastSilence := some now, cancelCount := holdAt 3 d.cancelCount, gapAt := some (now + 20000) }

theorem cancelCompleted_eq (s : State) : ∃ v : State, s.cancelCompleted = v.tryPlaceFrame ∧ v.onKey = s.onKey ∧
    v.dis.lastSilence = some s.now ∧ (s.dis.own = .cancelling → v.dis = dcancelled s.dis s.now) := by
  obtain ⟨gen, link, h⟩ := s.silenceEvent_eq
  unfold cancelCompleted
  rw [h]
  refine ⟨_, rfl, ?_, ?_, fun hown => ?_⟩
  · split
    · split <;> rfl
    · rfl
  · split
    · split <;> rfl
    · rfl
  · exact (congrArg State.dis (if_pos hown)).trans (apply_ite State.dis _ _ _)

theorem complete_frame {s : State} {x : Transmission} {r : FrameReq} (h : x.item = .frame r) :
    s.complete x = s.released.frameCompleted r.kind := by
  unfold complete
  rw [h]
  rfl

theorem complete_link {s : State} {x : Transmission} {r : LinkReq} (h : x.item = .link r) :
    s.complete x = s.released.linkReport r .sent := by
  unfold complete
  rw [h]
  rfl

theorem frameCompleted_spec (s : State) (k : FrameKind) : (s.frameCompleted k).onKey = s.onKey ∧
    (s.frameCompleted k).dis.lastSilence = some s.now := by
  have hplaced {v : State} (hk : v.onKey = s.onKey) (hl : v.dis.lastSilence = some s.now) :
      v.tryPlaceFrame.onKey = s.onKey ∧ v.tryPlaceFrame.dis.lastSilence = some s.now := by
    obtain ⟨_, _, hd⟩ := v.tryPlaceFrame_dis
    exact ⟨v.tryPlaceFrame_onKey.trans hk, (congrArg Distress.lastSilence hd).trans hl⟩
  cases k with
  | burst => exact ⟨silenceEvent_onKey _, congrArg Distress.lastSilence (silenceEvent_dis _)⟩
  | relay => exact hplaced (silenceEvent_onKey _) (congrArg Distress.lastSilence (silenceEvent_dis _))
  | dcancel =>
    obtain ⟨v, hv, hk, hl, -⟩ := s.cancelCompleted_eq
    unfold frameCompleted
    rw [hv]
    exact hplaced hk hl

theorem complete_onKey (s : State) (x : Transmission) : (s.complete x).onKey = s.released.onKey := by
  cases h : x.item with
  | frame r => exact (congrArg onKey (complete_frame h)).trans (frameCompleted_spec _ _).1
  | link r => exact (congrArg onKey (complete_link h)).trans (linkReport_onKey _ _ _)

theorem burstCompleted_spec (s : State) : s.burstCompleted.dis.own = s.dis.own ∧
    s.burstCompleted.dis.bursts = bump s.dis.bursts ∧ s.burstCompleted.dis.burstAt = if s.dis.bursting
      then some (s.now + 1000 * burstInterval (s.cfg.ownCall.getD 0)) else s.dis.burstAt :=
  have h : s.burstCompleted.dis = _ := silenceEvent_dis _
  ⟨(congrArg Distress.own h).trans rfl, (congrArg Distress.bursts h).trans rfl,
    (congrArg Distress.burstAt h).trans rfl⟩

theorem relayCompleted_spec (s : State) : s.relayCompleted.dis.own = s.dis.own ∧
    s.relayCompleted.dis.relaysSent = bump s.dis.relaysSent := by
  obtain ⟨_, _, hd⟩ := tryPlaceFrame_dis (silenceEvent { s with
    dis := { s.dis with relaysSent := bump s.dis.relaysSent } })
  rw [silenceEvent_dis] at hd
  exact ⟨(congrArg Distress.own hd).trans rfl, (congrArg Distress.relaysSent hd).trans rfl⟩

theorem cancelCompleted_spec {s : State} (h : s.dis.own = .cancelling) :
    s.cancelCompleted.dis.cancelCount = holdAt 3 s.dis.cancelCount ∧
    (s.dis.cancelCount < 2 → s.cancelCompleted.dis.own = .cancelling ∧
      s.cancelCompleted.dis.gapAt = some (s.now + 20000)) ∧
    (2 ≤ s.dis.cancelCount → s.cancelCompleted.dis.own = .none ∧ s.cancelCompleted.dis.serial = none ∧
      s.cancelCompleted.dis.gapAt = none ∧ s.cancelCompleted.dis.burstAt = none) := by
  obtain ⟨v, hv, -, -, hdis⟩ := s.cancelCompleted_eq
  obtain ⟨_, _, hd⟩ := v.tryPlaceFrame_dis
  rw [hdis h] at hd
  rw [hv, hd]
  have hcount : holdAt 3 s.dis.cancelCount = 3 ↔ 2 ≤ s.dis.cancelCount :=
    min_eq_left_iff.trans Nat.succ_le_succ_iff
  unfold dcancelled
  refine ⟨?_, fun hlt => ?_, fun hle => ?_⟩
  · split <;> rfl
  · rw [if_neg (mt hcount.1 (Nat.not_le.2 hlt))]
    exact ⟨h, rfl⟩
  · rw [if_pos (hcount.2 hle)]
    exact ⟨rfl, rfl, rfl, rfl⟩

end State

/-- Settles O16: KEY's release is kept by every report, and each kind of frame has its own effect. -/
theorem transmissionEndsWithItsLastSymbol : Obligations.TransmissionEndsWithItsLastSymbol := by
  intro s x hlow hx hend
  have hdue : s.completeDue = true := by unfold State.completeDue; rw [hx]; exact decide_eq_true hend
  have hexec : exec .transmissionComplete s = .next (s.complete x) :=
    State.timedOn_some hlow ((if_pos hdue).trans hx) _
  refine ⟨?_, fun r y hitem hy hrun hc => ?_⟩
  · obtain ⟨hkey, htxd, hw, href, hstart⟩ := State.key_of_onKey (s.complete_onKey x)
    refine ⟨_, hexec, hkey, htxd, hw, href, hstart, fun r hr => ?_⟩
    rw [State.complete_frame hr]
    refine ⟨(State.frameCompleted_spec _ _).2, fun hk => ?_, fun hk => ?_, fun hk hown => ?_⟩
    · obtain ⟨hown, hbursts, hat⟩ := s.released.burstCompleted_spec
      rw [hk]
      exact ⟨hown, hbursts, fun own hcall => hat.trans (if_congr (State.bursting_iff _)
        (congrArg (fun c : Option Nat => some (s.now + 1000 * burstInterval (c.getD 0))) hcall) rfl)⟩
    · rw [hk]
      exact s.released.relayCompleted_spec
    · rw [hk]
      exact State.cancelCompleted_spec (s := s.released) hown
  · have hreport := (hexec.trans (congrArg _ (State.complete_link hitem))).trans
      (congrArg _ (State.linkReport_sent (s := s.released) hy hc hrun))
    refine ⟨fun hk => hreport.trans (congrArg _ ((if_neg hk).trans ?_)),
      fun hk => hreport.trans (congrArg _ ((if_pos hk).trans ?_))⟩
    · split <;> rfl
    · split <;> exact State.blockReported_eq hy

end Sys2Proof.Machine
end

section
/-! PROOFS. The distress list's timers: watch expiry, the ALARM repeat and pulse, an entry's removal and the end of silence
(O36). -/

namespace Sys2Proof.Machine

/-- An entry not bridge-acknowledged whose watch has expired has ALARM pulse (R184). -/
theorem alarmOf_of_expired {list : List DistressEntry} {e : DistressEntry} (he : e ∈ list) (hack : e.bridgeAck = false)
    (hw : e.watch = .expired) : alarmOf list = .pulsed :=
  if_pos (List.any_eq_true.2 ⟨e, he, by rw [hack, hw]; rfl⟩)

theorem Phase.inSession_iff (p : Phase) : p.inSession = true ↔ p = .sending ∨ p = .receiving ∨ p = .ending := by
  refine ⟨fun h => ?_, fun h => h.elim (congrArg inSession) fun h => h.elim (congrArg inSession) (congrArg inSession)⟩
  cases p with
  | sending => exact .inl rfl
  | receiving => exact .inr (.inl rfl)
  | ending => exact .inr (.inr rfl)
  | _ => exact absurd h Bool.false_ne_true

namespace State

variable {s : State} {e : DistressEntry}

/-- An entry of the list that a test holds of is the one that its timer acts on. -/
theorem entryWhen_of {origin : Nat} (h : s.distressEntry origin = some e) {p : DistressEntry → Bool} (hp : p e = true) :
    s.entryWhen origin p = some e := by
  unfold entryWhen
  rw [h]
  exact if_pos hp

/-- The expiry shows on ALARM, pulsed (R184). -/
theorem alarm_watchOver (he : e ∈ s.dis.list) (hack : e.bridgeAck = false) : (s.watchOver e).dis.alarm = .pulsed :=
  alarmOf_of_expired (e := { e with watch := .expired }) (List.mem_map.2 ⟨e, he, if_pos rfl⟩) hack rfl

theorem repeatOver_eq (he : s.dis.mostUrgent = some e) : s.repeatOver = { s with
    dis := { s.dis with repeatAt := some (s.now + 30000) }
    port := s.port.notice 40 ([.num 1 3, .num 3 e.origin, .num 1 e.serial] ++ urgentFields (some e)
      ++ [.num 1 (s.dis.unacked.length - 1)]) } := by
  unfold repeatOver
  rw [he]
  exact congrArg (fun l => ({ s with
      dis := { s.dis with repeatAt := some (s.now + 30000) }, port := s.port.notice 40 l } : State))
    ((List.append_nil _).trans (congrArg (fun o => [_, _, _] ++ urgentFields o ++ [_]) he))

end State

/-- Settles O36: each timer is due, and what it announces is read off the list as it leaves it. -/
theorem distressListTimersAct : Obligations.DistressListTimersAct := by
  refine ⟨fun s hlow => ⟨fun origin e he hw hack hle => ?watch, fun at_ e hat hle he => ?again, fun hp hle => ?pulse⟩,
    fun s hlow => ⟨fun origin e he hack hdone hle => ?removal, fun l hown hl hle => ?silence⟩⟩
  case watch =>
    obtain rfl := State.origin_of_distressEntry he
    have hdue : e.watchDue s.now = true := Bool.and_eq_true_iff.2 ⟨decide_eq_true hw, decide_eq_true hle⟩
    have hpulsed := State.alarm_watchOver (List.mem_of_find?_eq_some he) hack
    refine ⟨s.watchOver e, State.timedOn_some hlow (State.entryWhen_of he hdue) _, hpulsed, rfl, rfl, ?_,
      fun hne => ⟨?_, ?_⟩, congrArg (s.port.notice 40) (List.append_nil _), rfl, rfl, rfl⟩
    · have hkept (o : Option Nat) (n : Nat) : (match o with
          | some t => some t
          | none => some n) = some (o.getD n) := by cases o <;> rfl
      exact (if_pos hpulsed).trans (hkept _ _)
    · exact (if_neg fun h => hne (h.symm.trans hpulsed)).trans (decide_eq_true fun h => nomatch hpulsed.symm.trans h)
    · exact if_pos (Bool.and_eq_true_iff.2 ⟨decide_eq_true hpulsed, decide_eq_true hne⟩)
  case again =>
    exact (State.timed_due hlow (State.reached_of hat hle) _ : execAlarmRepeat s = _).trans
      (congrArg _ (State.repeatOver_eq he))
  case pulse =>
    exact State.timed_due hlow (Bool.and_eq_true_iff.2 ⟨decide_eq_true hp, decide_eq_true hle⟩) _
  case removal =>
    intro unpinned unmarked
    obtain rfl := State.origin_of_distressEntry he
    have hready : e.removable s.now = true := by
      unfold DistressEntry.removable Config.removalMs
      rw [hack, decide_eq_true hle, Bool.and_true, Bool.true_and, Bool.or_eq_true]
      exact hdone.imp_left Option.isSome_iff_ne_none.2
    refine ⟨(s.dropEntry e.origin).refreshAlarm,
      (State.timedOn_some hlow (State.entryWhen_of he hready) _ : execEntryRemoval e.origin s = _), rfl, rfl, rfl, ?_,
      rfl, rfl, rfl, rfl⟩
    refine congrArg (fun l => { s.nm with table := l }) (List.map_congr_left fun x _ => ?_)
    refine congrArg (fun y => if x.call = e.origin then y else x) ?_
    refine Eq.trans ?_ (ite_not ..).symm
    refine if_congr Iff.rfl ?_ rfl
    cases hp : x.pins.peer with
    | false => exact (if_neg Bool.false_ne_true).trans (if_pos rfl).symm
    | true =>
      refine (if_pos rfl).trans (Eq.trans ?_ (if_neg (show ¬ true = false by decide)).symm)
      exact congrArg (fun st => { unpinned x with state := st, partner := s.cfg.ownCall, stateTime := s.now })
        (if_congr (Phase.inSession_iff _) rfl rfl)
  case silence =>
    have hend : s.dis.lastSilence.map (· + Config.silenceMs) = some (l + 900000) := by
      simp only [hl, Config.silenceMs, Option.map_some]
    have hdue : s.silenceDue = true :=
      Bool.and_eq_true_iff.2 ⟨decide_eq_true hown, State.reached_of hend hle⟩
    exact (State.timed_due hlow hdue _ : execSilenceEnd s = _)

end Sys2Proof.Machine
end

section
/-! PROOFS. STATUS: a command that is taken answers with its item, and one of an element with that element's (O54). -/

namespace Sys2Proof.Machine

theorem length_insertBy {α : Type} (before : α → α → Bool) (x : α) (l : List α) :
    (insertBy before x l).length = l.length + 1 := by
  induction l with
  | nil => rfl
  | cons y l ih =>
    refine (apply_ite List.length ..).trans ?_
    rw [List.length_cons, List.length_cons, List.length_cons, ih, ite_self]

theorem length_sortBy {α : Type} (before : α → α → Bool) (l : List α) : (sortBy before l).length = l.length := by
  induction l with
  | nil => rfl
  | cons x l ih => exact (length_insertBy _ x _).trans (congrArg (· + 1) ih)

theorem isSome_atPlace {α : Type} (l : List α) (n : Nat) :
    (atPlace l n).isSome = decide (1 ≤ n ∧ n ≤ l.length) := by
  cases n with
  | zero => rfl
  | succ n =>
    refine Bool.eq_iff_iff.2 ((iff_of_eq (isSome_getElem? l n)).trans ?_)
    rw [decide_eq_true_iff]
    exact ⟨fun h => ⟨Nat.succ_pos n, h⟩, And.right⟩

namespace State

variable {s : State} {r : Request} {n : Nat}

/-- A STATUS of one of many, as its number names an element or none. -/
theorem answerOne_eq {α : Type} (hn : numAt r.params 0 2 = some n) (find : Nat → Option α)
    (content : α → List Field) : s.answerOne r find content =
      ((find n).map fun a => s.answerStatus r (content a)).getD (s.invalid clsStatus r) := by
  unfold answerOne
  rw [hn, Option.bind_some]
  cases find n <;> rfl

theorem exec_status (ht : s.takes r) (item : State → List Field) :
    (s.taken fun t => t.request clsStatus r fun u q => u.answerStatus q (item u)) =
      .next (s.result 128 r .done (item s)) := taken_request ht rfl _

/-- A STATUS of one of many answers the element its number names, or REFUSED-INVALID where none stands (R210). -/
theorem exec_statusOne {α : Type} (ht : s.takes r) (hn : numAt r.params 0 2 = some n) (find : State → Nat → Option α)
    {found : Bool} (hfound : (find s n).isSome = found) (item : State → α → List Field) :
    let done := s.taken fun t => t.request clsStatus r fun u q => u.answerOne q (find u) (item u)
    (found = true → ∃ c, done = .next (s.result 128 r .done c)) ∧
    (found = false → done = .next (s.result 128 r .invalid [])) := by
  intro done
  have hdone : done = .next (s.answerOne r (find s) (item s)) := taken_request ht rfl _
  rw [hdone, answerOne_eq hn]
  cases h : find s n <;> rw [h] at hfound <;> subst hfound
  · exact ⟨fun h => absurd h Bool.false_ne_true, fun _ => rfl⟩
  · exact ⟨fun _ => ⟨_, rfl⟩, fun h => absurd h.symm Bool.false_ne_true⟩

theorem exec_statusAt {α : Type} (ht : s.takes r) (hn : numAt r.params 0 2 = some n) (list : State → List α) {a : α}
    (hpos : 1 ≤ n) (ha : (list s)[n - 1]? = some a) (item : State → α → List Field) :
    (s.taken fun t => t.request clsStatus r fun u q => u.answerOne q (atPlace (list u)) (item u)) =
      .next (s.result 128 r .done (item s a)) := by
  have hfind : atPlace (list s) n = some a := (if_neg (Nat.pos_iff_ne_zero.1 hpos)).trans ha
  refine (taken_request ht rfl _).trans (congrArg _ ((answerOne_eq hn _ _).trans ?_))
  rw [hfind]
  rfl

end State

/-- Settles O54: each command answers with the item it names, and the items spelt out are those of the model. -/
theorem statusAnswersAndChangesNothingElse : Obligations.StatusAnswersAndChangesNothingElse := by
  refine ⟨fun s r ht => ⟨?each, fun o ho hswap => ?monitor, ?decoder, ?store, fun p hp => ?clock⟩,
    fun s r n ht hn => ?one⟩
  case each =>
    have hcons {c : Instr} {cs : List Instr} (item : State → List Field) (hc : exec c s = s.taken fun t =>
        t.request clsStatus r fun u q => u.answerStatus q (item u))
        (hcs : ∀ c ∈ cs, ∃ content, exec c s = .next (s.result 128 r .done content)) :
        ∀ d ∈ c :: cs, ∃ content, exec d s = .next (s.result 128 r .done content) :=
      List.forall_mem_cons.2 ⟨⟨_, hc.trans (State.exec_status ht item)⟩, hcs⟩
    exact hcons State.itemLink rfl <| hcons State.itemMonitor rfl <| hcons State.itemDecoder rfl <|
      hcons State.itemOutgoing rfl <| hcons State.itemIncoming rfl <| hcons State.itemBulletins rfl <|
      hcons State.itemStore rfl <| hcons State.itemTally rfl <| hcons State.itemDistress rfl <|
      hcons State.itemLines rfl <| hcons State.itemClock rfl <| hcons State.itemPort rfl <| List.forall_mem_nil _
  case monitor =>
    have hsettled : s.nm.overheard.map (fun y => y.settled s.now) = some o := by
      rw [ho, Option.map_some, Overheard.settled_of_waiting fun t h => nomatch hswap.symm.trans h]
    have hexec : exec (.statusNetMonitor r) s = _ := State.exec_status ht State.itemMonitor
    rw [hexec]
    unfold State.itemMonitor
    rw [hsettled]
    rfl
  case decoder => exact State.exec_status ht State.itemDecoder
  case store => exact State.exec_status ht State.itemStore
  case clock =>
    have hexec : exec (.statusClock r) s = _ := State.exec_status ht State.itemClock
    rw [hexec]
    unfold State.itemClock
    have htime (o : Option Nat) : orAbsent 2 o (fun t => hold16 (secsSince s.now t)) = match o with
        | some t => .num 2 (min 65535 ((s.now - t) / 1000))
        | none => .absent 2 := by cases o <;> rfl
    dsimp only
    rw [hp, htime]
    rfl
  case one =>
    have hat {α : Type} (list : State → List α) (len : Nat) (hlen : (list s).length = len) :
        (atPlace (list s) n).isSome = decide (1 ≤ n ∧ n ≤ len) := hlen ▸ isSome_atPlace (list s) n
    exact ⟨State.exec_statusOne ht hn (fun u => atPlace u.ranked) (hat State.ranked _ (length_sortBy _ _)) State.itemStation,
      State.exec_statusOne ht hn State.outRec List.isSome_find? State.itemOutRec,
      State.exec_statusOne ht hn State.incRec List.isSome_find? State.itemIncRec,
      State.exec_statusOne ht hn State.bulRec List.isSome_find? fun _ => itemBulRec,
      State.exec_statusOne ht hn (fun u => atPlace u.dis.list) (hat (·.dis.list) _ rfl) State.itemEntry,
      State.exec_statusOne ht hn (fun u => atPlace u.tally.hauls) (hat (·.tally.hauls) _ rfl) fun _ => itemHaul,
      State.exec_statusOne ht hn (fun u => atPlace u.tally.rows) (hat (·.tally.rows) _ rfl) fun _ => itemRow,
      fun h hpos hh => State.exec_statusAt ht hn (fun u => u.tally.hauls) hpos hh fun _ => itemHaul,
      fun x hpos hx => State.exec_statusAt ht hn (fun u => u.tally.rows) hpos hx fun _ => itemRow⟩

end Sys2Proof.Machine
end

section
/-! PROOFS. The cycle boundary: the limits of the cycle that ends, the cycle that begins, and the pending break (O20).

The definitions here only name states and sessions that the lemmas speak of: nothing runs them, so none is compiled. -/

namespace Sys2Proof.Machine

/-- The session as its next cycle begins. -/
noncomputable def Session.inNextCycle (x : Session) (phase : Phase) : Session :=
  { x with boundary := x.boundary + 1200, sampled := phase.inSession, valid := false, blockSent := false,
           overRead := false, longRead := false, shortRead := false }

/-- The closing BREAK of a session's cycle, with the letter of its reason (R87). -/
noncomputable def Session.brk (x : Session) (reason : BreakReason) : LinkReq :=
  { kind := .block, chars := [113, 16 + x.nextSeq, reason.letter - 32, 98, 98, 98, 98], slotStart := x.boundary,
    cls := x.cls, closing := true }

namespace State

variable {s : State} {x : Session}

theorem exec_cycleBoundary (hlow : s.resetLow = false) (hrun : s.link.phase.running = true)
    (hx : s.link.session = some x) (hle : x.boundary + 1200 ≤ s.now) : exec .cycleBoundary s = .next (s.boundary x) := by
  have hdue : s.boundaryDue = true := by
    unfold boundaryDue
    rw [hx, hrun]
    exact decide_eq_true hle
  exact (timedOn_some hlow ((if_pos hdue).trans hx) _ : execCycleBoundary s = _)

/-- What the sample of a cycle leaves alone. -/
noncomputable def unsampled (s : State) : LinkController × Encoder × Settings := (s.link, s.enc, s.cfg)

theorem cycleSample_unsampled (s : State) (x : Session) : (s.cycleSample x).unsampled = s.unsampled :=
  (apply_ite (fun t : State => t.confirmPeer.unsampled) _ _ _).trans (ite_self _)

theorem cycleLimit_cycleSample (s : State) (x : Session) : (s.cycleSample x).cycleLimit x = s.cycleLimit x :=
  congrArg (fun p : LinkController × Encoder × Settings => cycleLimit { s with link := p.1 } x)
    (cycleSample_unsampled s x)

theorem boundary_of_limit {code : EndCode} (h : s.cycleLimit x = some code) :
    s.boundary x = (s.cycleSample x).endSession code none false := by
  unfold boundary
  dsimp only
  rw [(cycleLimit_cycleSample s x).trans h]

/-- The state in a phase with a session. -/
noncomputable def within (s : State) (p : Phase) (o : Option Session) : State :=
  { s with link := { s.link with phase := p, session := o } }

/-- A boundary with no limit reached and no change of role takes the break that is pending, in the cycle that begins. -/
theorem boundary_of_pending {reason : BreakReason} (hx : s.link.session = some x) (hnext : x.next = none)
    (hbreaking : x.breaking = none) (hpending : s.link.pendingBreak = some reason) {p : Phase} (hp : s.link.phase = p)
    (hlimit : s.cycleLimit x = none) :
    s.boundary x = ((s.cycleSample x).nextCycle.within p (some (x.inNextCycle p))).takeBreak reason := by
  have hlink : (s.cycleSample x).link = s.link := congrArg Prod.fst (cycleSample_unsampled s x)
  have hrole : (s.cycleSample x).changeRole x = s.cycleSample x := by
    unfold changeRole
    rw [hnext]
  have hpend : (s.cycleSample x).nextCycle.link.pendingBreak = some reason :=
    (congrArg LinkController.pendingBreak hlink).trans hpending
  have hbegun : (s.cycleSample x).nextCycle = (s.cycleSample x).nextCycle.within p (some (x.inNextCycle p)) :=
    congrArg₂ (fun p (o : Option Session) =>
        (s.cycleSample x).nextCycle.within p (o.map fun y : Session => y.inNextCycle p))
      ((congrArg LinkController.phase hlink).trans hp) ((congrArg LinkController.session hlink).trans hx)
  unfold boundary
  dsimp only
  rw [(cycleLimit_cycleSample s x).trans hlimit, hrole, hpend, hbreaking]
  exact congrArg (takeBreak · reason) hbegun

/-- The session and the encoder. -/
noncomputable def tied (s : State) : Option Session × Encoder := (s.link.session, s.enc)

/-- A request withdrawn that closes no session leaves the session and the encoder. -/
theorem linkReport_withdrawn (hx : s.link.session = some x) {old : LinkReq} (hc : old.closing = false) :
    (s.linkReport old .withdrawn).tied = s.tied :=
  (congrArg tied (linkReport_unsent hx hc TxReport.noConfusion)).trans ((apply_ite tied _ _ _).trans (ite_self _))

/-- A LINK request placed in a session leaves the session, and withdraws one that waits. -/
theorem placeLink_tied (hx : s.link.session = some x) (hown : s.cfg.ownCall.isSome = true)
    (hold : ∀ old, s.enc.link = some old → old.closing = false) (r : LinkReq) :
    (s.placeLink r).tied = (s.link.session, { s.enc with link := some r }) :=
  (Option.eq_none_or_eq_some s.enc.link).elim (fun hnone => congrArg tied (placeLink_free hown hnone r))
    fun hsome => hsome.elim fun old hlink =>
      (congrArg (fun o => tied (placeLink { s with enc := { s.enc with link := o } } r)) hlink).trans
        ((congrArg tied (if_pos hown)).trans
          (congrArg (fun t : Option Session × Encoder => (t.1, ({ t.2 with link := some r } : Encoder)))
            (linkReport_withdrawn (s := { s with enc := { s.enc with link := none } }) hx (hold old hlink))))

/-- A pending break goes into the long slot of a cycle in which the part sends. -/
theorem takeBreak_sender {p : Phase} {reason : BreakReason} (hp : p = .sending ∨ p = .ending) :
    (s.within p (some x)).takeBreak reason = ((s.within p (some x)).onSession fun y =>
      { y with breaking := some reason }).placeLink (x.brk reason) := by
  obtain rfl | rfl := hp
  · rfl
  · rfl

/-- Short of its phase's own limit and of 32 failed cycles, a cycle calls for no end. -/
theorem cycleLimit_none (hfull : x.fullClose = false) (hfailed : s.link.counts.failed < 32)
    (h : s.link.phase = .sending ∨ s.link.phase = .receiving ∨ (s.link.phase = .ending ∧ s.link.counts.closes < 4) ∨
      (s.link.phase = .calling ∧ x.callCycle < 8) ∨ (s.link.phase = .answering ∧ x.empties < 8)) :
    s.cycleLimit x = none := by
  refine (if_neg (ne_true_of_eq_false hfull)).trans ((if_neg (Nat.not_le.2 hfailed)).trans ?_)
  generalize s.link.phase = p at h
  obtain rfl | rfl | ⟨rfl, hlt⟩ | ⟨rfl, hlt⟩ | ⟨rfl, hlt⟩ := h
  · rfl
  · rfl
  · exact if_neg (Nat.not_le.2 hlt)
  · exact if_neg fun hle => Nat.not_le.2 hlt (of_decide_eq_true (Bool.and_eq_true_iff.1 hle).1)
  · exact if_neg (Nat.not_le.2 hlt)

end State

/-- Settles O20: past the limits, the pending break is taken as the phase has it. -/
theorem boundaryTakesThePendingBreak : Obligations.BoundaryTakesThePendingBreak := by
  intro s x reason own hlow hrun hx hle brk
  have hexec := State.exec_cycleBoundary hlow hrun hx hle
  have hended {t : State} {y : Session} (ht : t.link.session = some y) (code : EndCode) (r : Option BreakReason) :
      (t.endSession code r false).link.session = none ∧ (t.endSession code r false).link.phase.running = false :=
    And.imp_right And.right (State.endSession_rests ht code r false).1
  refine ⟨fun hnext hfailed hfull hbreaking hold hpending hown => ?taken, fun hfailed => ?lost⟩
  case lost =>
    have hlimit : s.cycleLimit x = some (if x.fullClose then .peerFull else .linkLost) :=
      (congrArg (ite _ _) (if_pos hfailed)).trans (apply_ite some _ _ _).symm
    exact ⟨_, hexec.trans (congrArg _ (State.boundary_of_limit hlimit)),
      hended ((congrArg (fun t => t.1.session) (State.cycleSample_unsampled s x)).trans hx) _ _⟩
  case taken =>
    have hexec {p : Phase} (hp : s.link.phase = p) (hlimit : s.cycleLimit x = none) : exec .cycleBoundary s =
        .next (((s.cycleSample x).nextCycle.within p (some (x.inNextCycle p))).takeBreak reason) :=
      hexec.trans (congrArg _ (State.boundary_of_pending hx hnext hbreaking hpending hp hlimit))
    have hleft := State.cycleSample_unsampled s x
    have henc : (s.cycleSample x).nextCycle.enc = s.enc := congrArg (fun t => t.2.1) hleft
    refine ⟨fun hphase => ?_, fun hphase => ?_, fun hphase => ?_⟩
    · have hplaced := State.placeLink_tied
        (s := ((s.cycleSample x).nextCycle.within s.link.phase (some (x.inNextCycle s.link.phase))).onSession fun y =>
          { y with breaking := some reason }) rfl
        (Option.isSome_of_eq_some ((congrArg (fun t => t.2.2.ownCall) hleft).trans hown))
        (fun old h => hold old ((congrArg Encoder.link henc).symm.trans h)) brk
      exact ⟨_, _, (hexec rfl (State.cycleLimit_none hfull hfailed (hphase.imp_right fun h => .inr (.inl h)))).trans
        (congrArg _ (State.takeBreak_sender (hphase.imp_right And.left))), congrArg Prod.fst hplaced, rfl, rfl,
        (congrArg Prod.snd hplaced).trans (congrArg (fun e : Encoder => { e with link := some brk }) henc)⟩
    · exact ⟨_, _, hexec hphase (State.cycleLimit_none hfull hfailed (.inr (.inl hphase))), rfl, rfl, rfl, rfl, henc⟩
    · obtain h | h := hphase
      · exact ⟨_, hexec h.1 (State.cycleLimit_none hfull hfailed (.inr (.inr (.inr (.inl h))))), hended rfl _ _⟩
      · exact ⟨_, hexec h.1 (State.cycleLimit_none hfull hfailed (.inr (.inr (.inr (.inr h))))), hended rfl _ _⟩

end Sys2Proof.Machine
end
